-- ==== Sys2Proof/Word.lean ====
section
/-! DEFINITION. The output word of the block and the byte it is serialised into. Rules R6, R8, R32. -/

namespace Sys2Proof

/-- The instruction word: "a 32-bit unsigned value with no object identity beyond its bit pattern".
Bit 31 is the most significant, bit 0 the least (R6, R8, R32, R42). -/
abbrev Word := BitVec 32

/-- One byte of a serialised word (R33). -/
abbrev Byte := BitVec 8

end Sys2Proof
end

