-- ==== Sys2Proof/Machine/Fields.lean ====
section
/-! DEFINITION. The integer notation of 00_scope.md section 4, and the word as bytes. Rules R7, R32, R33. -/

namespace Sys2Proof.Machine

/-- `mask(w) = 2^w - 1`. -/
def mask (w : Nat) : Int := 2 ^ w - 1

/-- `v[i]`: bit `i` of the integer `v` in infinite two's complement, `floor(v / 2^i) mod 2`. -/
def bitOf (v : Int) (i : Nat) : Int := v / 2 ^ i % 2

/-- `v[hi:lo] = floor(v / 2^lo) mod 2^(hi-lo+1)`. -/
def bits (v : Int) (hi lo : Nat) : Int := v / 2 ^ lo % 2 ^ (hi - lo + 1)

/-- `zext_N(v) = v mod 2^N`, an integer in `[0, 2^N)`. -/
def zext (n : Nat) (v : Int) : Int := v % 2 ^ n

/-- `sext_N(v)`: `zext_N(v)` when it is below `2^(N-1)`, else `zext_N(v) - 2^N`. -/
def sext (n : Nat) (v : Int) : Int :=
  if zext n v < 2 ^ (n - 1) then zext n v else zext n v - 2 ^ n

/-- `word[hi:lo]` as the unsigned integer it holds. -/
def wordBits (w : Word) (hi lo : Nat) : Int := ((w.extractLsb' lo (hi - lo + 1)).toNat : Int)

/-- Byte `k` of the little-endian image of a word: `word[8k+7:8k]` (R33, D5). -/
def wordByte (w : Word) (k : Nat) : Byte := w.extractLsb' (8 * k) 8

/-- The four bytes of a word at base + 0 .. base + 3, the byte holding the opcode first (R33). -/
def wordBytes (w : Word) : List Byte := [wordByte w 0, wordByte w 1, wordByte w 2, wordByte w 3]

/-- The word whose little-endian image is `b0 b1 b2 b3` (R33, read backwards). -/
def wordOfBytes (b0 b1 b2 b3 : Byte) : Word := b3 ++ b2 ++ b1 ++ b0

/-- The byte image of a list of words placed one after the other (R33; the programs of 95_test_vectors.md section 5). -/
def image (ws : List Word) : List Byte := ws.flatMap wordBytes

end Sys2Proof.Machine
end

