-- ==== Sys2Proof/Config.lean ====
section
/-! DEFINITION. What is fixed for the block: its widths and operand ranges (R6), the six formats (R2), and the one
parameter the spec leaves OPEN, the binary code of the format select, `SEL_ENCODING` (R30, D2). -/

namespace Sys2Proof

/-- The six 32-bit instruction formats of RV32I (R2). -/
inductive Format where
  | R | I | S | B | U | J
  deriving DecidableEq, Repr

namespace Config

/-- `XLEN` of the encoded ISA (R6 table). -/
abbrev xlen : Nat := 32

/-- `ILEN`, the output word's width in bits (R6, R42). -/
abbrev ilen : Nat := 32

/-- The registers a register reference can name (R6, R11). -/
abbrev registerCount : Int := 32

/-- The ends of the signed 12-bit immediate of I and S (R6 table). -/
abbrev imm12Min : Int := -2048
abbrev imm12Max : Int := 2047

/-- The ends of the signed even 13-bit immediate of B (R6 table). -/
abbrev immBMin : Int := -4096
abbrev immBMax : Int := 4094

/-- The ends of the unsigned 20-bit immediate of U (R6 table). -/
abbrev immUMin : Int := 0
abbrev immUMax : Int := 1048575

/-- The ends of the signed even 21-bit immediate of J (R6 table). -/
abbrev immJMin : Int := -1048576
abbrev immJMax : Int := 1048574

/-- The largest shift amount (R6 table). -/
abbrev shamtMax : Int := 31

/-- The largest value of FENCE's 4-bit fm, pred and succ (R134). -/
abbrev nibbleMax : Int := 15

/-- An injective map from the six formats to select codes (93_implementation_defined.md entry 3). The default written here
only shows that such a map exists, which `opaque` asks for; no proof can see it in `selEncoding`. -/
structure SelEncoding where
  code : Format → Nat := fun f => f.ctorIdx
  injective : Function.Injective code := by intro a b h; cases a <;> cases b <;> first | rfl | cases h
  deriving Inhabited

/-- `SEL_ENCODING`: the select code a hardware realisation gives each format. OPEN in the spec (R30, D2): a constant with
no body, so that a claim holds whatever the assignment is. Log entry 7. -/
opaque selEncoding : SelEncoding

end Config
end Sys2Proof
end

