-- ==== Sys2Proof/Syntax.lean ====
section
/-! DEFINITION. The per-mnemonic requests of the block: one constructor per row of spec/opcode_table.json, with the
operands the caller supplies. Rules R27 (last sentence), R65, R88 to R136. -/

namespace Sys2Proof

/-- One RV32I instruction as a caller asks the block to encode it. Every operand is an unbounded integer (D3): the block
masks it to its field and rejects nothing (R139). Operands in the order of the assembly text (R72 to R79). -/
inductive Instr where
  -- register-register, R88 to R97
  | add (rd rs1 rs2 : Int)
  | sub (rd rs1 rs2 : Int)
  | sll (rd rs1 rs2 : Int)
  | slt (rd rs1 rs2 : Int)
  | sltu (rd rs1 rs2 : Int)
  | xor (rd rs1 rs2 : Int)
  | srl (rd rs1 rs2 : Int)
  | sra (rd rs1 rs2 : Int)
  | or (rd rs1 rs2 : Int)
  | and (rd rs1 rs2 : Int)
  -- immediate ALU, R100 to R105
  | addi (rd rs1 imm : Int)
  | slti (rd rs1 imm : Int)
  | sltiu (rd rs1 imm : Int)
  | xori (rd rs1 imm : Int)
  | ori (rd rs1 imm : Int)
  | andi (rd rs1 imm : Int)
  -- shifts by immediate, R106 to R108
  | slli (rd rs1 shamt : Int)
  | srli (rd rs1 shamt : Int)
  | srai (rd rs1 shamt : Int)
  -- loads and JALR, R109 to R114
  | lb (rd rs1 imm : Int)
  | lh (rd rs1 imm : Int)
  | lw (rd rs1 imm : Int)
  | lbu (rd rs1 imm : Int)
  | lhu (rd rs1 imm : Int)
  | jalr (rd rs1 imm : Int)
  -- stores, R116 to R118
  | sb (rs2 rs1 imm : Int)
  | sh (rs2 rs1 imm : Int)
  | sw (rs2 rs1 imm : Int)
  -- branches, R120 to R125
  | beq (rs1 rs2 imm : Int)
  | bne (rs1 rs2 imm : Int)
  | blt (rs1 rs2 imm : Int)
  | bge (rs1 rs2 imm : Int)
  | bltu (rs1 rs2 imm : Int)
  | bgeu (rs1 rs2 imm : Int)
  -- upper immediates, R128 and R129
  | lui (rd imm : Int)
  | auipc (rd imm : Int)
  -- jump and link, R132
  | jal (rd imm : Int)
  -- FENCE, ECALL, EBREAK, R134 to R136
  | fence (fm pred succ : Int)
  | ecall
  | ebreak
  deriving DecidableEq, Repr

end Sys2Proof
end

