-- ==== Sys2Proof/WellFormed.lean ====
section
/-! DEFINITION. The caller's duty: every operand lies in its field's valid range (R157, with the ranges of R6's table).
The block itself checks none of this (R139); a claim that a word means the instruction intended rests on it. -/

namespace Sys2Proof

/-- A register reference is "an integer in [0, 31]" (R11). -/
def regOk (r : Int) : Bool := decide (0 ≤ r ∧ r < Config.registerCount)

/-- A signed 12-bit immediate of I or S (R6). -/
def imm12Ok (v : Int) : Bool := decide (Config.imm12Min ≤ v ∧ v ≤ Config.imm12Max)

/-- A signed even 13-bit branch offset (R6, R157). -/
def immBOk (v : Int) : Bool := decide (Config.immBMin ≤ v ∧ v ≤ Config.immBMax ∧ v % 2 = 0)

/-- An unsigned 20-bit upper immediate (R6). -/
def immUOk (v : Int) : Bool := decide (Config.immUMin ≤ v ∧ v ≤ Config.immUMax)

/-- A signed even 21-bit jump offset (R6, R157). -/
def immJOk (v : Int) : Bool := decide (Config.immJMin ≤ v ∧ v ≤ Config.immJMax ∧ v % 2 = 0)

/-- A shift amount, 0 to 31 (R6, R99). -/
def shamtOk (v : Int) : Bool := decide (0 ≤ v ∧ v ≤ Config.shamtMax)

/-- A 4-bit set or fence mode of FENCE (R134). -/
def nibbleOk (v : Int) : Bool := decide (0 ≤ v ∧ v ≤ Config.nibbleMax)

/-- Every operand of the instruction is in the range the caller owes (R157). -/
def Instr.wellFormed : Instr → Bool
  | .add rd rs1 rs2 => regOk rd && regOk rs1 && regOk rs2
  | .sub rd rs1 rs2 => regOk rd && regOk rs1 && regOk rs2
  | .sll rd rs1 rs2 => regOk rd && regOk rs1 && regOk rs2
  | .slt rd rs1 rs2 => regOk rd && regOk rs1 && regOk rs2
  | .sltu rd rs1 rs2 => regOk rd && regOk rs1 && regOk rs2
  | .xor rd rs1 rs2 => regOk rd && regOk rs1 && regOk rs2
  | .srl rd rs1 rs2 => regOk rd && regOk rs1 && regOk rs2
  | .sra rd rs1 rs2 => regOk rd && regOk rs1 && regOk rs2
  | .or rd rs1 rs2 => regOk rd && regOk rs1 && regOk rs2
  | .and rd rs1 rs2 => regOk rd && regOk rs1 && regOk rs2
  | .addi rd rs1 imm => regOk rd && regOk rs1 && imm12Ok imm
  | .slti rd rs1 imm => regOk rd && regOk rs1 && imm12Ok imm
  | .sltiu rd rs1 imm => regOk rd && regOk rs1 && imm12Ok imm
  | .xori rd rs1 imm => regOk rd && regOk rs1 && imm12Ok imm
  | .ori rd rs1 imm => regOk rd && regOk rs1 && imm12Ok imm
  | .andi rd rs1 imm => regOk rd && regOk rs1 && imm12Ok imm
  | .slli rd rs1 shamt => regOk rd && regOk rs1 && shamtOk shamt
  | .srli rd rs1 shamt => regOk rd && regOk rs1 && shamtOk shamt
  | .srai rd rs1 shamt => regOk rd && regOk rs1 && shamtOk shamt
  | .lb rd rs1 imm => regOk rd && regOk rs1 && imm12Ok imm
  | .lh rd rs1 imm => regOk rd && regOk rs1 && imm12Ok imm
  | .lw rd rs1 imm => regOk rd && regOk rs1 && imm12Ok imm
  | .lbu rd rs1 imm => regOk rd && regOk rs1 && imm12Ok imm
  | .lhu rd rs1 imm => regOk rd && regOk rs1 && imm12Ok imm
  | .jalr rd rs1 imm => regOk rd && regOk rs1 && imm12Ok imm
  | .sb rs2 rs1 imm => regOk rs2 && regOk rs1 && imm12Ok imm
  | .sh rs2 rs1 imm => regOk rs2 && regOk rs1 && imm12Ok imm
  | .sw rs2 rs1 imm => regOk rs2 && regOk rs1 && imm12Ok imm
  | .beq rs1 rs2 imm => regOk rs1 && regOk rs2 && immBOk imm
  | .bne rs1 rs2 imm => regOk rs1 && regOk rs2 && immBOk imm
  | .blt rs1 rs2 imm => regOk rs1 && regOk rs2 && immBOk imm
  | .bge rs1 rs2 imm => regOk rs1 && regOk rs2 && immBOk imm
  | .bltu rs1 rs2 imm => regOk rs1 && regOk rs2 && immBOk imm
  | .bgeu rs1 rs2 imm => regOk rs1 && regOk rs2 && immBOk imm
  | .lui rd imm => regOk rd && immUOk imm
  | .auipc rd imm => regOk rd && immUOk imm
  | .jal rd imm => regOk rd && immJOk imm
  | .fence fm pred succ => nibbleOk fm && nibbleOk pred && nibbleOk succ
  | .ecall => true
  | .ebreak => true

end Sys2Proof
end

