-- ==== Sys2Proof/Decode.lean ====
section
/-! DEFINITION. The opcode table, the reference extractors (R57), a decoder that rejects by name, and the encoder of the
table. None of this is a function of the block (R3): the host names a request by its table word, and the properties of
30_encoding.md section 6 are stated through the extractors. The block's own encoders are in Machine/Ops.lean. -/

namespace Sys2Proof
open Machine

/-! The reference extractors of R57. -/

/-- `opcode_of(w) = w[6:0]`. -/
def opcodeOf (w : Word) : Int := wordBits w 6 0
/-- `rd_of(w) = w[11:7]`. -/
def rdOf (w : Word) : Int := wordBits w 11 7
/-- `funct3_of(w) = w[14:12]`. -/
def funct3Of (w : Word) : Int := wordBits w 14 12
/-- `rs1_of(w) = w[19:15]`. -/
def rs1Of (w : Word) : Int := wordBits w 19 15
/-- `rs2_of(w) = w[24:20]`. -/
def rs2Of (w : Word) : Int := wordBits w 24 20
/-- `funct7_of(w) = w[31:25]`. -/
def funct7Of (w : Word) : Int := wordBits w 31 25
/-- `shamt_of(w) = w[24:20]`. -/
def shamtOf (w : Word) : Int := wordBits w 24 20
/-- `immI_of(w) = sext_12(w[31:20])`. -/
def immIOf (w : Word) : Int := sext 12 (wordBits w 31 20)
/-- `immS_of(w) = sext_12({w[31:25]:7, w[11:7]:5})`. -/
def immSOf (w : Word) : Int := sext 12 ((w.extractLsb' 25 7 ++ w.extractLsb' 7 5).toNat : Int)
/-- `immB_of(w) = sext_13({w[31]:1, w[7]:1, w[30:25]:6, w[11:8]:4, 0:1})`. -/
def immBOf (w : Word) : Int :=
  sext 13 ((w.extractLsb' 31 1 ++ w.extractLsb' 7 1 ++ w.extractLsb' 25 6 ++ w.extractLsb' 8 4 ++ 0#1).toNat : Int)
/-- `immU_of(w) = w[31:12]`, unsigned. -/
def immUOf (w : Word) : Int := wordBits w 31 12
/-- `immJ_of(w) = sext_21({w[31]:1, w[19:12]:8, w[20]:1, w[30:21]:10, 0:1})`. -/
def immJOf (w : Word) : Int :=
  sext 21 ((w.extractLsb' 31 1 ++ w.extractLsb' 12 8 ++ w.extractLsb' 20 1 ++ w.extractLsb' 21 10 ++ 0#1).toNat : Int)
/-- The FENCE fields fm, pred and succ at [31:28], [27:24] and [23:20] (R134; spec/opcode_table.json). -/
def fmOf (w : Word) : Int := wordBits w 31 28
def predOf (w : Word) : Int := wordBits w 27 24
def succOf (w : Word) : Int := wordBits w 23 20

/-! The opcode table of spec/opcode_table.json: "a word `w` is that instruction when `w & mask == match`" (INDEX.md). -/

/-- One row: its mnemonic, its format, the bits it fixes and their values. -/
structure TableRow where
  mnemonic : String
  format : Format
  mask : Word
  pattern : Word
  deriving DecidableEq, Repr

/-- The rows of the R format (R88 to R97). -/
def tableR : List TableRow :=
  [⟨"ADD", .R, 0xFE00707F, 0x00000033⟩, ⟨"SUB", .R, 0xFE00707F, 0x40000033⟩, ⟨"SLL", .R, 0xFE00707F, 0x00001033⟩,
   ⟨"SLT", .R, 0xFE00707F, 0x00002033⟩, ⟨"SLTU", .R, 0xFE00707F, 0x00003033⟩, ⟨"XOR", .R, 0xFE00707F, 0x00004033⟩,
   ⟨"SRL", .R, 0xFE00707F, 0x00005033⟩, ⟨"SRA", .R, 0xFE00707F, 0x40005033⟩, ⟨"OR", .R, 0xFE00707F, 0x00006033⟩,
   ⟨"AND", .R, 0xFE00707F, 0x00007033⟩]

/-- The immediate ALU rows and the shifts by immediate (R100 to R108). -/
def tableOpImm : List TableRow :=
  [⟨"ADDI", .I, 0x0000707F, 0x00000013⟩, ⟨"SLTI", .I, 0x0000707F, 0x00002013⟩, ⟨"SLTIU", .I, 0x0000707F, 0x00003013⟩,
   ⟨"XORI", .I, 0x0000707F, 0x00004013⟩, ⟨"ORI", .I, 0x0000707F, 0x00006013⟩, ⟨"ANDI", .I, 0x0000707F, 0x00007013⟩,
   ⟨"SLLI", .I, 0xFE00707F, 0x00001013⟩, ⟨"SRLI", .I, 0xFE00707F, 0x00005013⟩, ⟨"SRAI", .I, 0xFE00707F, 0x40005013⟩]

/-- The loads, JALR and the stores (R109 to R118). -/
def tableLoadStore : List TableRow :=
  [⟨"LB", .I, 0x0000707F, 0x00000003⟩, ⟨"LH", .I, 0x0000707F, 0x00001003⟩, ⟨"LW", .I, 0x0000707F, 0x00002003⟩,
   ⟨"LBU", .I, 0x0000707F, 0x00004003⟩, ⟨"LHU", .I, 0x0000707F, 0x00005003⟩, ⟨"JALR", .I, 0x0000707F, 0x00000067⟩,
   ⟨"SB", .S, 0x0000707F, 0x00000023⟩, ⟨"SH", .S, 0x0000707F, 0x00001023⟩, ⟨"SW", .S, 0x0000707F, 0x00002023⟩]

/-- The branches, the U and J formats, FENCE, ECALL and EBREAK (R120 to R136). -/
def tableRest : List TableRow :=
  [⟨"BEQ", .B, 0x0000707F, 0x00000063⟩, ⟨"BNE", .B, 0x0000707F, 0x00001063⟩, ⟨"BLT", .B, 0x0000707F, 0x00004063⟩,
   ⟨"BGE", .B, 0x0000707F, 0x00005063⟩, ⟨"BLTU", .B, 0x0000707F, 0x00006063⟩, ⟨"BGEU", .B, 0x0000707F, 0x00007063⟩,
   ⟨"LUI", .U, 0x0000007F, 0x00000037⟩, ⟨"AUIPC", .U, 0x0000007F, 0x00000017⟩, ⟨"JAL", .J, 0x0000007F, 0x0000006F⟩,
   ⟨"FENCE", .I, 0x0000707F, 0x0000000F⟩, ⟨"ECALL", .I, 0xFFFFFFFF, 0x00000073⟩, ⟨"EBREAK", .I, 0xFFFFFFFF, 0x00100073⟩]

/-- The whole table, 40 rows. -/
def opcodeTable : List TableRow := tableR ++ tableOpImm ++ tableLoadStore ++ tableRest

/-- The mnemonic of an instruction, as the table spells it. -/
def Instr.mnemonic : Instr → String
  | .add _ _ _ => "ADD"
  | .sub _ _ _ => "SUB"
  | .sll _ _ _ => "SLL"
  | .slt _ _ _ => "SLT"
  | .sltu _ _ _ => "SLTU"
  | .xor _ _ _ => "XOR"
  | .srl _ _ _ => "SRL"
  | .sra _ _ _ => "SRA"
  | .or _ _ _ => "OR"
  | .and _ _ _ => "AND"
  | .addi _ _ _ => "ADDI"
  | .slti _ _ _ => "SLTI"
  | .sltiu _ _ _ => "SLTIU"
  | .xori _ _ _ => "XORI"
  | .ori _ _ _ => "ORI"
  | .andi _ _ _ => "ANDI"
  | .slli _ _ _ => "SLLI"
  | .srli _ _ _ => "SRLI"
  | .srai _ _ _ => "SRAI"
  | .lb _ _ _ => "LB"
  | .lh _ _ _ => "LH"
  | .lw _ _ _ => "LW"
  | .lbu _ _ _ => "LBU"
  | .lhu _ _ _ => "LHU"
  | .jalr _ _ _ => "JALR"
  | .sb _ _ _ => "SB"
  | .sh _ _ _ => "SH"
  | .sw _ _ _ => "SW"
  | .beq _ _ _ => "BEQ"
  | .bne _ _ _ => "BNE"
  | .blt _ _ _ => "BLT"
  | .bge _ _ _ => "BGE"
  | .bltu _ _ _ => "BLTU"
  | .bgeu _ _ _ => "BGEU"
  | .lui _ _ => "LUI"
  | .auipc _ _ => "AUIPC"
  | .jal _ _ => "JAL"
  | .fence _ _ _ => "FENCE"
  | .ecall => "ECALL"
  | .ebreak => "EBREAK"

/-- The major opcode of an instruction's category (R64). -/
def Instr.opcode : Instr → Int
  | .add _ _ _ => 0b0110011
  | .sub _ _ _ => 0b0110011
  | .sll _ _ _ => 0b0110011
  | .slt _ _ _ => 0b0110011
  | .sltu _ _ _ => 0b0110011
  | .xor _ _ _ => 0b0110011
  | .srl _ _ _ => 0b0110011
  | .sra _ _ _ => 0b0110011
  | .or _ _ _ => 0b0110011
  | .and _ _ _ => 0b0110011
  | .addi _ _ _ => 0b0010011
  | .slti _ _ _ => 0b0010011
  | .sltiu _ _ _ => 0b0010011
  | .xori _ _ _ => 0b0010011
  | .ori _ _ _ => 0b0010011
  | .andi _ _ _ => 0b0010011
  | .slli _ _ _ => 0b0010011
  | .srli _ _ _ => 0b0010011
  | .srai _ _ _ => 0b0010011
  | .lb _ _ _ => 0b0000011
  | .lh _ _ _ => 0b0000011
  | .lw _ _ _ => 0b0000011
  | .lbu _ _ _ => 0b0000011
  | .lhu _ _ _ => 0b0000011
  | .jalr _ _ _ => 0b1100111
  | .sb _ _ _ => 0b0100011
  | .sh _ _ _ => 0b0100011
  | .sw _ _ _ => 0b0100011
  | .beq _ _ _ => 0b1100011
  | .bne _ _ _ => 0b1100011
  | .blt _ _ _ => 0b1100011
  | .bge _ _ _ => 0b1100011
  | .bltu _ _ _ => 0b1100011
  | .bgeu _ _ _ => 0b1100011
  | .lui _ _ => 0b0110111
  | .auipc _ _ => 0b0010111
  | .jal _ _ => 0b1101111
  | .fence _ _ _ => 0b0001111
  | .ecall => 0b1110011
  | .ebreak => 0b1110011

/-- The format a major opcode selects (R66); none for an opcode R64 does not list. -/
def formatOfOpcode (op : Int) : Option Format :=
  if op = 0b0110011 then some .R
  else if op = 0b0010011 ∨ op = 0b0000011 ∨ op = 0b1100111 ∨ op = 0b0001111 ∨ op = 0b1110011 then some .I
  else if op = 0b0100011 then some .S
  else if op = 0b1100011 then some .B
  else if op = 0b0110111 ∨ op = 0b0010111 then some .U
  else if op = 0b1101111 then some .J
  else none

/-! The decoder. -/

/-- Why the decoder rejects a word or a byte sequence. It is not the block's refusal: the block decodes nothing (R3). -/
inductive DecodeReject where
  /-- Fewer than the four bytes of a word (R42). -/
  | tooShort
  /-- Bits [6:0] are none of the opcodes of R64. -/
  | unknownOpcode
  /-- The opcode has no row with these bits [14:12] (R65). -/
  | unknownFunct3
  /-- The opcode and funct3 have no row with these bits [31:25] (R65). -/
  | unknownFunct7
  /-- A SYSTEM word that is neither ECALL nor EBREAK (R135 to R137). -/
  | unknownSystem
  deriving DecidableEq, Repr

/-- OP, `0b0110011` (R64, R88 to R97). -/
def decodeOp (w : Word) : Except DecodeReject Instr :=
  match w.extractLsb' 12 3, w.extractLsb' 25 7 with
  | 0b000#3, 0b0000000#7 => .ok (.add (rdOf w) (rs1Of w) (rs2Of w))
  | 0b000#3, 0b0100000#7 => .ok (.sub (rdOf w) (rs1Of w) (rs2Of w))
  | 0b001#3, 0b0000000#7 => .ok (.sll (rdOf w) (rs1Of w) (rs2Of w))
  | 0b010#3, 0b0000000#7 => .ok (.slt (rdOf w) (rs1Of w) (rs2Of w))
  | 0b011#3, 0b0000000#7 => .ok (.sltu (rdOf w) (rs1Of w) (rs2Of w))
  | 0b100#3, 0b0000000#7 => .ok (.xor (rdOf w) (rs1Of w) (rs2Of w))
  | 0b101#3, 0b0000000#7 => .ok (.srl (rdOf w) (rs1Of w) (rs2Of w))
  | 0b101#3, 0b0100000#7 => .ok (.sra (rdOf w) (rs1Of w) (rs2Of w))
  | 0b110#3, 0b0000000#7 => .ok (.or (rdOf w) (rs1Of w) (rs2Of w))
  | 0b111#3, 0b0000000#7 => .ok (.and (rdOf w) (rs1Of w) (rs2Of w))
  | _, _ => .error .unknownFunct7

/-- OP-IMM, `0b0010011` (R64, R100 to R108). -/
def decodeOpImm (w : Word) : Except DecodeReject Instr :=
  match w.extractLsb' 12 3 with
  | 0b000#3 => .ok (.addi (rdOf w) (rs1Of w) (immIOf w))
  | 0b010#3 => .ok (.slti (rdOf w) (rs1Of w) (immIOf w))
  | 0b011#3 => .ok (.sltiu (rdOf w) (rs1Of w) (immIOf w))
  | 0b100#3 => .ok (.xori (rdOf w) (rs1Of w) (immIOf w))
  | 0b110#3 => .ok (.ori (rdOf w) (rs1Of w) (immIOf w))
  | 0b111#3 => .ok (.andi (rdOf w) (rs1Of w) (immIOf w))
  | 0b001#3 =>
    match w.extractLsb' 25 7 with
    | 0b0000000#7 => .ok (.slli (rdOf w) (rs1Of w) (shamtOf w))
    | _ => .error .unknownFunct7
  | _ =>
    match w.extractLsb' 25 7 with
    | 0b0000000#7 => .ok (.srli (rdOf w) (rs1Of w) (shamtOf w))
    | 0b0100000#7 => .ok (.srai (rdOf w) (rs1Of w) (shamtOf w))
    | _ => .error .unknownFunct7

/-- LOAD, `0b0000011` (R64, R109 to R113). -/
def decodeLoad (w : Word) : Except DecodeReject Instr :=
  match w.extractLsb' 12 3 with
  | 0b000#3 => .ok (.lb (rdOf w) (rs1Of w) (immIOf w))
  | 0b001#3 => .ok (.lh (rdOf w) (rs1Of w) (immIOf w))
  | 0b010#3 => .ok (.lw (rdOf w) (rs1Of w) (immIOf w))
  | 0b100#3 => .ok (.lbu (rdOf w) (rs1Of w) (immIOf w))
  | 0b101#3 => .ok (.lhu (rdOf w) (rs1Of w) (immIOf w))
  | _ => .error .unknownFunct3

/-- JALR, `0b1100111` (R64, R114). -/
def decodeJalr (w : Word) : Except DecodeReject Instr :=
  match w.extractLsb' 12 3 with
  | 0b000#3 => .ok (.jalr (rdOf w) (rs1Of w) (immIOf w))
  | _ => .error .unknownFunct3

/-- STORE, `0b0100011` (R64, R116 to R118). -/
def decodeStore (w : Word) : Except DecodeReject Instr :=
  match w.extractLsb' 12 3 with
  | 0b000#3 => .ok (.sb (rs2Of w) (rs1Of w) (immSOf w))
  | 0b001#3 => .ok (.sh (rs2Of w) (rs1Of w) (immSOf w))
  | 0b010#3 => .ok (.sw (rs2Of w) (rs1Of w) (immSOf w))
  | _ => .error .unknownFunct3

/-- BRANCH, `0b1100011` (R64, R120 to R125). -/
def decodeBranch (w : Word) : Except DecodeReject Instr :=
  match w.extractLsb' 12 3 with
  | 0b000#3 => .ok (.beq (rs1Of w) (rs2Of w) (immBOf w))
  | 0b001#3 => .ok (.bne (rs1Of w) (rs2Of w) (immBOf w))
  | 0b100#3 => .ok (.blt (rs1Of w) (rs2Of w) (immBOf w))
  | 0b101#3 => .ok (.bge (rs1Of w) (rs2Of w) (immBOf w))
  | 0b110#3 => .ok (.bltu (rs1Of w) (rs2Of w) (immBOf w))
  | 0b111#3 => .ok (.bgeu (rs1Of w) (rs2Of w) (immBOf w))
  | _ => .error .unknownFunct3

/-- MISC-MEM, `0b0001111` (R64, R134). The row's mask leaves bits [19:15] and [11:7] free, so a word with other values
there is FENCE too, and they are no operand (log entry 5). -/
def decodeMiscMem (w : Word) : Except DecodeReject Instr :=
  match w.extractLsb' 12 3 with
  | 0b000#3 => .ok (.fence (fmOf w) (predOf w) (succOf w))
  | _ => .error .unknownFunct3

/-- SYSTEM, `0b1110011` (R64, R135, R136): the two rows fix every bit. -/
def decodeSystem (w : Word) : Except DecodeReject Instr :=
  if w = 0x00000073#32 then .ok .ecall
  else if w = 0x00100073#32 then .ok .ebreak
  else .error .unknownSystem

/-- The instruction a word is, by the opcode map of R64 and R65. -/
def decodeWord (w : Word) : Except DecodeReject Instr :=
  match w.extractLsb' 0 7 with
  | 0b0110011#7 => decodeOp w
  | 0b0010011#7 => decodeOpImm w
  | 0b0000011#7 => decodeLoad w
  | 0b1100111#7 => decodeJalr w
  | 0b0100011#7 => decodeStore w
  | 0b1100011#7 => decodeBranch w
  | 0b0110111#7 => .ok (.lui (rdOf w) (immUOf w))
  | 0b0010111#7 => .ok (.auipc (rdOf w) (immUOf w))
  | 0b1101111#7 => .ok (.jal (rdOf w) (immJOf w))
  | 0b0001111#7 => decodeMiscMem w
  | 0b1110011#7 => decodeSystem w
  | _ => .error .unknownOpcode

/-- The first instruction of a byte sequence and the bytes after it: four bytes, little-endian (R33, R42). -/
def decode : List Byte → Except DecodeReject (Instr × List Byte)
  | b0 :: b1 :: b2 :: b3 :: rest =>
    match decodeWord (wordOfBytes b0 b1 b2 b3) with
    | .ok i => .ok (i, rest)
    | .error e => .error e
  | _ => .error .tooShort

/-- The word of a table entry: the bits of `w` below `nbits`, the first word (R42: there is one length). -/
def tableWord (nbits w : Nat) : Word := BitVec.ofNat 32 (w % 2 ^ nbits)

/-- The instruction the decoder reads from the bits `w` of a table row, stored little-endian. -/
def decodeTableWord (nbits w : Nat) : Option Instr :=
  match decode (wordBytes (tableWord nbits w)) with
  | .ok (i, _) => some i
  | .error _ => none

/-! The encoder of the table: the layouts of R45 to R50 as concatenations, the constants of R65. -/

/-- R45: `funct7 | rs2 | rs1 | funct3 | rd | opcode`. -/
def wordR (f7 : BitVec 7) (rs2 rs1 : Int) (f3 : BitVec 3) (rd : Int) (op : BitVec 7) : Word :=
  f7 ++ BitVec.ofInt 5 rs2 ++ BitVec.ofInt 5 rs1 ++ f3 ++ BitVec.ofInt 5 rd ++ op

/-- R46: `imm[11:0] | rs1 | funct3 | rd | opcode`. -/
def wordI (imm : BitVec 12) (rs1 : Int) (f3 : BitVec 3) (rd : Int) (op : BitVec 7) : Word :=
  imm ++ BitVec.ofInt 5 rs1 ++ f3 ++ BitVec.ofInt 5 rd ++ op

/-- R47: `imm[11:5] | rs2 | rs1 | funct3 | imm[4:0] | opcode`. -/
def wordS (imm : BitVec 12) (rs2 rs1 : Int) (f3 : BitVec 3) (op : BitVec 7) : Word :=
  imm.extractLsb' 5 7 ++ BitVec.ofInt 5 rs2 ++ BitVec.ofInt 5 rs1 ++ f3 ++ imm.extractLsb' 0 5 ++ op

/-- R48: `imm[12] | imm[10:5] | rs2 | rs1 | funct3 | imm[4:1] | imm[11] | opcode`. -/
def wordB (imm : BitVec 13) (rs2 rs1 : Int) (f3 : BitVec 3) (op : BitVec 7) : Word :=
  imm.extractLsb' 12 1 ++ imm.extractLsb' 5 6 ++ BitVec.ofInt 5 rs2 ++ BitVec.ofInt 5 rs1 ++ f3 ++
    imm.extractLsb' 1 4 ++ imm.extractLsb' 11 1 ++ op

/-- R49: `imm[19:0] | rd | opcode`. -/
def wordU (imm : BitVec 20) (rd : Int) (op : BitVec 7) : Word :=
  imm ++ BitVec.ofInt 5 rd ++ op

/-- R50: `imm[20] | imm[10:1] | imm[11] | imm[19:12] | rd | opcode`. -/
def wordJ (imm : BitVec 21) (rd : Int) (op : BitVec 7) : Word :=
  imm.extractLsb' 20 1 ++ imm.extractLsb' 1 10 ++ imm.extractLsb' 11 1 ++ imm.extractLsb' 12 8 ++
    BitVec.ofInt 5 rd ++ op

/-- The table's word of an instruction: the row's fixed bits, and in each field the operand's low bits. -/
def encode : Instr → Word
  | .add rd rs1 rs2 => wordR 0b0000000#7 rs2 rs1 0b000#3 rd 0b0110011#7
  | .sub rd rs1 rs2 => wordR 0b0100000#7 rs2 rs1 0b000#3 rd 0b0110011#7
  | .sll rd rs1 rs2 => wordR 0b0000000#7 rs2 rs1 0b001#3 rd 0b0110011#7
  | .slt rd rs1 rs2 => wordR 0b0000000#7 rs2 rs1 0b010#3 rd 0b0110011#7
  | .sltu rd rs1 rs2 => wordR 0b0000000#7 rs2 rs1 0b011#3 rd 0b0110011#7
  | .xor rd rs1 rs2 => wordR 0b0000000#7 rs2 rs1 0b100#3 rd 0b0110011#7
  | .srl rd rs1 rs2 => wordR 0b0000000#7 rs2 rs1 0b101#3 rd 0b0110011#7
  | .sra rd rs1 rs2 => wordR 0b0100000#7 rs2 rs1 0b101#3 rd 0b0110011#7
  | .or rd rs1 rs2 => wordR 0b0000000#7 rs2 rs1 0b110#3 rd 0b0110011#7
  | .and rd rs1 rs2 => wordR 0b0000000#7 rs2 rs1 0b111#3 rd 0b0110011#7
  | .addi rd rs1 imm => wordI (BitVec.ofInt 12 imm) rs1 0b000#3 rd 0b0010011#7
  | .slti rd rs1 imm => wordI (BitVec.ofInt 12 imm) rs1 0b010#3 rd 0b0010011#7
  | .sltiu rd rs1 imm => wordI (BitVec.ofInt 12 imm) rs1 0b011#3 rd 0b0010011#7
  | .xori rd rs1 imm => wordI (BitVec.ofInt 12 imm) rs1 0b100#3 rd 0b0010011#7
  | .ori rd rs1 imm => wordI (BitVec.ofInt 12 imm) rs1 0b110#3 rd 0b0010011#7
  | .andi rd rs1 imm => wordI (BitVec.ofInt 12 imm) rs1 0b111#3 rd 0b0010011#7
  | .slli rd rs1 shamt => wordI (0b0000000#7 ++ BitVec.ofInt 5 shamt) rs1 0b001#3 rd 0b0010011#7
  | .srli rd rs1 shamt => wordI (0b0000000#7 ++ BitVec.ofInt 5 shamt) rs1 0b101#3 rd 0b0010011#7
  | .srai rd rs1 shamt => wordI (0b0100000#7 ++ BitVec.ofInt 5 shamt) rs1 0b101#3 rd 0b0010011#7
  | .lb rd rs1 imm => wordI (BitVec.ofInt 12 imm) rs1 0b000#3 rd 0b0000011#7
  | .lh rd rs1 imm => wordI (BitVec.ofInt 12 imm) rs1 0b001#3 rd 0b0000011#7
  | .lw rd rs1 imm => wordI (BitVec.ofInt 12 imm) rs1 0b010#3 rd 0b0000011#7
  | .lbu rd rs1 imm => wordI (BitVec.ofInt 12 imm) rs1 0b100#3 rd 0b0000011#7
  | .lhu rd rs1 imm => wordI (BitVec.ofInt 12 imm) rs1 0b101#3 rd 0b0000011#7
  | .jalr rd rs1 imm => wordI (BitVec.ofInt 12 imm) rs1 0b000#3 rd 0b1100111#7
  | .sb rs2 rs1 imm => wordS (BitVec.ofInt 12 imm) rs2 rs1 0b000#3 0b0100011#7
  | .sh rs2 rs1 imm => wordS (BitVec.ofInt 12 imm) rs2 rs1 0b001#3 0b0100011#7
  | .sw rs2 rs1 imm => wordS (BitVec.ofInt 12 imm) rs2 rs1 0b010#3 0b0100011#7
  | .beq rs1 rs2 imm => wordB (BitVec.ofInt 13 imm) rs2 rs1 0b000#3 0b1100011#7
  | .bne rs1 rs2 imm => wordB (BitVec.ofInt 13 imm) rs2 rs1 0b001#3 0b1100011#7
  | .blt rs1 rs2 imm => wordB (BitVec.ofInt 13 imm) rs2 rs1 0b100#3 0b1100011#7
  | .bge rs1 rs2 imm => wordB (BitVec.ofInt 13 imm) rs2 rs1 0b101#3 0b1100011#7
  | .bltu rs1 rs2 imm => wordB (BitVec.ofInt 13 imm) rs2 rs1 0b110#3 0b1100011#7
  | .bgeu rs1 rs2 imm => wordB (BitVec.ofInt 13 imm) rs2 rs1 0b111#3 0b1100011#7
  | .lui rd imm => wordU (BitVec.ofInt 20 imm) rd 0b0110111#7
  | .auipc rd imm => wordU (BitVec.ofInt 20 imm) rd 0b0010111#7
  | .jal rd imm => wordJ (BitVec.ofInt 21 imm) rd 0b1101111#7
  | .fence fm pred succ =>
    wordI (BitVec.ofInt 4 fm ++ BitVec.ofInt 4 pred ++ BitVec.ofInt 4 succ) 0 0b000#3 0 0b0001111#7
  | .ecall => wordI 0#12 0 0b000#3 0 0b1110011#7
  | .ebreak => wordI 1#12 0 0b000#3 0 0b1110011#7

/-- The bytes of an instruction's word as a program image holds them (R33). -/
def encodeBytes (i : Instr) : List Byte := wordBytes (encode i)

/-! What masking leaves of each operand (R58). -/

/-- A B offset after masking: the 13-bit value with bit 0 cleared (R58, R126). -/
def maskedB (imm : Int) : Int := sext 13 imm - zext 1 imm

/-- A J offset after masking: the 21-bit value with bit 0 cleared (R58, R133). -/
def maskedJ (imm : Int) : Int := sext 21 imm - zext 1 imm

/-- The instruction with every operand reduced to what reaches the word, in the extractors' signedness (R58). -/
def Instr.masked : Instr → Instr
  | .add rd rs1 rs2 => .add (zext 5 rd) (zext 5 rs1) (zext 5 rs2)
  | .sub rd rs1 rs2 => .sub (zext 5 rd) (zext 5 rs1) (zext 5 rs2)
  | .sll rd rs1 rs2 => .sll (zext 5 rd) (zext 5 rs1) (zext 5 rs2)
  | .slt rd rs1 rs2 => .slt (zext 5 rd) (zext 5 rs1) (zext 5 rs2)
  | .sltu rd rs1 rs2 => .sltu (zext 5 rd) (zext 5 rs1) (zext 5 rs2)
  | .xor rd rs1 rs2 => .xor (zext 5 rd) (zext 5 rs1) (zext 5 rs2)
  | .srl rd rs1 rs2 => .srl (zext 5 rd) (zext 5 rs1) (zext 5 rs2)
  | .sra rd rs1 rs2 => .sra (zext 5 rd) (zext 5 rs1) (zext 5 rs2)
  | .or rd rs1 rs2 => .or (zext 5 rd) (zext 5 rs1) (zext 5 rs2)
  | .and rd rs1 rs2 => .and (zext 5 rd) (zext 5 rs1) (zext 5 rs2)
  | .addi rd rs1 imm => .addi (zext 5 rd) (zext 5 rs1) (sext 12 imm)
  | .slti rd rs1 imm => .slti (zext 5 rd) (zext 5 rs1) (sext 12 imm)
  | .sltiu rd rs1 imm => .sltiu (zext 5 rd) (zext 5 rs1) (sext 12 imm)
  | .xori rd rs1 imm => .xori (zext 5 rd) (zext 5 rs1) (sext 12 imm)
  | .ori rd rs1 imm => .ori (zext 5 rd) (zext 5 rs1) (sext 12 imm)
  | .andi rd rs1 imm => .andi (zext 5 rd) (zext 5 rs1) (sext 12 imm)
  | .slli rd rs1 shamt => .slli (zext 5 rd) (zext 5 rs1) (zext 5 shamt)
  | .srli rd rs1 shamt => .srli (zext 5 rd) (zext 5 rs1) (zext 5 shamt)
  | .srai rd rs1 shamt => .srai (zext 5 rd) (zext 5 rs1) (zext 5 shamt)
  | .lb rd rs1 imm => .lb (zext 5 rd) (zext 5 rs1) (sext 12 imm)
  | .lh rd rs1 imm => .lh (zext 5 rd) (zext 5 rs1) (sext 12 imm)
  | .lw rd rs1 imm => .lw (zext 5 rd) (zext 5 rs1) (sext 12 imm)
  | .lbu rd rs1 imm => .lbu (zext 5 rd) (zext 5 rs1) (sext 12 imm)
  | .lhu rd rs1 imm => .lhu (zext 5 rd) (zext 5 rs1) (sext 12 imm)
  | .jalr rd rs1 imm => .jalr (zext 5 rd) (zext 5 rs1) (sext 12 imm)
  | .sb rs2 rs1 imm => .sb (zext 5 rs2) (zext 5 rs1) (sext 12 imm)
  | .sh rs2 rs1 imm => .sh (zext 5 rs2) (zext 5 rs1) (sext 12 imm)
  | .sw rs2 rs1 imm => .sw (zext 5 rs2) (zext 5 rs1) (sext 12 imm)
  | .beq rs1 rs2 imm => .beq (zext 5 rs1) (zext 5 rs2) (maskedB imm)
  | .bne rs1 rs2 imm => .bne (zext 5 rs1) (zext 5 rs2) (maskedB imm)
  | .blt rs1 rs2 imm => .blt (zext 5 rs1) (zext 5 rs2) (maskedB imm)
  | .bge rs1 rs2 imm => .bge (zext 5 rs1) (zext 5 rs2) (maskedB imm)
  | .bltu rs1 rs2 imm => .bltu (zext 5 rs1) (zext 5 rs2) (maskedB imm)
  | .bgeu rs1 rs2 imm => .bgeu (zext 5 rs1) (zext 5 rs2) (maskedB imm)
  | .lui rd imm => .lui (zext 5 rd) (zext 20 imm)
  | .auipc rd imm => .auipc (zext 5 rd) (zext 20 imm)
  | .jal rd imm => .jal (zext 5 rd) (maskedJ imm)
  | .fence fm pred succ => .fence (zext 4 fm) (zext 4 pred) (zext 4 succ)
  | .ecall => .ecall
  | .ebreak => .ebreak

end Sys2Proof
end

