-- ==== Sys2Proof/Machine/Request.lean ====
section
/-! DEFINITION. What a caller can ask of the block and what the block can answer: the entry points of 10_state.md
section 9 (R20 to R27), the binary-select realisation of R30, and the output values. -/

namespace Sys2Proof.Machine

/-- The tagged variant of R27: one per format, "every argument an integer". The set is closed. -/
inductive EncodeRequest where
  | R (funct7 rs2 rs1 funct3 rd opcode : Int)
  | I (imm rs1 funct3 rd opcode : Int)
  | S (imm rs2 rs1 funct3 opcode : Int)
  | B (imm rs2 rs1 funct3 opcode : Int)
  | U (imm rd opcode : Int)
  | J (imm rd opcode : Int)
  deriving DecidableEq, Repr

/-- The fixed width and offset pairs the block gives to `pack` (R85): the whole fields of the six formats (R45 to R50), the
parts the S, B and J immediates are split into (R83, R115, R119, R131), the two parts of the shift immediate (R99) and
the three of FENCE's immediate (R134). A caller cannot choose others. Log entry 8. -/
inductive PackSite where
  | funct7 | rs2 | rs1 | funct3 | rd | opcode | immI | immU
  | immS11to5 | immS4to0
  | immB12 | immB10to5 | immB4to1 | immB11
  | immJ20 | immJ10to1 | immJ11 | immJ19to12
  | shiftFunct7 | shiftShamt
  | fenceFm | fencePred | fenceSucc
  deriving DecidableEq, Repr

/-- The field inputs of a realisation that carries the format choice on a select input (R30). Log entry 7. -/
structure FieldBus where
  funct7 : Int
  rs2 : Int
  rs1 : Int
  funct3 : Int
  rd : Int
  opcode : Int
  imm : Int
  deriving DecidableEq, Repr

/-- One call of the block. The first six are the entry points `encode_R` to `encode_J` (R20 to R25), then `shift_imm`
(R26), `pack` at one of its fixed sites (R80, R85, R140), the tagged dispatch `Encode` (R27), a binary select code with
the field bus (R30), and a mnemonic's constant field set (R27's last sentence, R88 to R136). -/
inductive Call where
  | encodeR (funct7 rs2 rs1 funct3 rd opcode : Int)
  | encodeI (imm rs1 funct3 rd opcode : Int)
  | encodeS (imm rs2 rs1 funct3 opcode : Int)
  | encodeB (imm rs2 rs1 funct3 opcode : Int)
  | encodeU (imm rd opcode : Int)
  | encodeJ (imm rd opcode : Int)
  | shiftImm (funct7 shamt : Int)
  | pack (site : PackSite) (value : Int)
  | encode (r : EncodeRequest)
  | select (code : Nat) (bus : FieldBus)
  | instr (i : Instr)
  deriving DecidableEq, Repr

/-- What a call returns: a 32-bit word from an encoder (R20 to R25), the 12-bit immediate of `shift_imm` (R26), or the
integer of `pack` (R80). -/
inductive Output where
  | word (w : Word)
  | imm12 (v : BitVec 12)
  | packed (n : Nat)
  deriving DecidableEq, Repr

end Sys2Proof.Machine
end

