-- ==== Sys2Proof/Machine/State.lean ====
section
/-! DEFINITION. The state: the block's two ports and nothing else. The block "has no architectural state" (R10 to R19,
R153): no register, pc, flag, control register, memory or hidden state. What a step of this interface needs is the call
presented at the input and the value at the output, so those are the fields (log entry 1). -/

namespace Sys2Proof.Machine

/-- The block has no fault: "A model's encoder has no fault outcome" (R140), it "raises no synchronous exception and has
no cause codes" (R142). So no constructor, and no meaning can answer with one. -/
inductive Fault
  deriving DecidableEq, Repr

/-- Why a step gives no meaning. -/
inductive Refusal where
  /-- An arm of `exec` whose instruction has no meaning yet. Raised by no arm. Safe: nothing is claimed of it. -/
  | notModelled (mnemonic : String)
  /-- A select code `SEL_ENCODING` assigns to no format: a model "refuses (gives no meaning to)" it (R30, D2;
  93_implementation_defined.md entry 4). Raised by a `select` call. Safe: the spec gives no output. -/
  | unassignedSelect (code : Nat)
  deriving DecidableEq, Repr

/-- The ports. Nothing of a call persists in the block (R10, R19); both fields belong to the interface. -/
structure State where
  /-- The calls the caller makes, the next one first. Each is served in one step (R28, R154). -/
  calls : List Call
  /-- The value the call served by the last step returned; none when no call was presented (R154). -/
  output : Option Output
  deriving DecidableEq, Repr

/-- Before any call: the block has no reset and no reset value (R153), so no call is presented and no value is at the
output. Log entry 1. -/
def State.reset : State := { calls := [], output := none }

end Sys2Proof.Machine
end

