-- ==== Sys2Proof/Machine/Ops.lean ====
section
/-! DEFINITION. The Field Packer (R80, R83), the six format encoders (R87, R98, R115, R119, R127, R131), the tagged
dispatch (R27), and the one way a call returns its value. The block takes no exception and returns from none (R142,
R145, R146), so there is no such operation here. -/

namespace Sys2Proof.Machine

/-- The Field Packer (R80): mask first, shift second (R82): `(value & mask(width)) << offset = zext_width(value) * 2^offset`.
Total and silent (R81). -/
def pack (value : Int) (width offset : Nat) : Nat := (zext width value).toNat <<< offset

/-- Bits `value[hi:lo]` to positions `dest + hi - lo` down to `dest` (R83). -/
def place (value : Int) (hi lo dest : Nat) : Nat := pack (value >>> lo) (hi - lo + 1) dest

/-- An encoder's integer result as the 32-bit output word (R8, D4). -/
def toWord (n : Nat) : Word := BitVec.ofNat 32 n

/-- R87. -/
def encodeR (funct7 rs2 rs1 funct3 rd opcode : Int) : Word :=
  toWord (pack funct7 7 25 ||| pack rs2 5 20 ||| pack rs1 5 15 ||| pack funct3 3 12 ||| pack rd 5 7 ||| pack opcode 7 0)

/-- R98. -/
def encodeI (imm rs1 funct3 rd opcode : Int) : Word :=
  toWord (pack imm 12 20 ||| pack rs1 5 15 ||| pack funct3 3 12 ||| pack rd 5 7 ||| pack opcode 7 0)

/-- R115. -/
def encodeS (imm rs2 rs1 funct3 opcode : Int) : Word :=
  toWord (place imm 11 5 25 ||| pack rs2 5 20 ||| pack rs1 5 15 ||| pack funct3 3 12 ||| place imm 4 0 7 |||
    pack opcode 7 0)

/-- R119. -/
def encodeB (imm rs2 rs1 funct3 opcode : Int) : Word :=
  toWord (place imm 12 12 31 ||| place imm 10 5 25 ||| pack rs2 5 20 ||| pack rs1 5 15 ||| pack funct3 3 12 |||
    place imm 4 1 8 ||| place imm 11 11 7 ||| pack opcode 7 0)

/-- R127. -/
def encodeU (imm rd opcode : Int) : Word :=
  toWord (pack imm 20 12 ||| pack rd 5 7 ||| pack opcode 7 0)

/-- R131. -/
def encodeJ (imm rd opcode : Int) : Word :=
  toWord (place imm 20 20 31 ||| place imm 10 1 21 ||| place imm 11 11 20 ||| place imm 19 12 12 ||| pack rd 5 7 |||
    pack opcode 7 0)

/-- The single dispatch function over the tagged variant, `Encode` (R27). -/
def encodeRequest : EncodeRequest → Word
  | .R funct7 rs2 rs1 funct3 rd opcode => encodeR funct7 rs2 rs1 funct3 rd opcode
  | .I imm rs1 funct3 rd opcode => encodeI imm rs1 funct3 rd opcode
  | .S imm rs2 rs1 funct3 opcode => encodeS imm rs2 rs1 funct3 opcode
  | .B imm rs2 rs1 funct3 opcode => encodeB imm rs2 rs1 funct3 opcode
  | .U imm rd opcode => encodeU imm rd opcode
  | .J imm rd opcode => encodeJ imm rd opcode

/-- The format of a request. -/
def EncodeRequest.format : EncodeRequest → Format
  | .R .. => .R
  | .I .. => .I
  | .S .. => .S
  | .B .. => .B
  | .U .. => .U
  | .J .. => .J

/-- The value at the output port replaced. -/
def State.setOutput (s : State) (o : Option Output) : State := { s with output := o }

/-- The calls at the input port replaced. -/
def State.setCalls (s : State) (cs : List Call) : State := { s with calls := cs }

/-- A call returns: its value is at the output and nothing else changes (R28, R35). -/
def returnOutput (o : Output) (s : State) : Host.Outcome State Fault Refusal := .next (s.setOutput (some o))

/-- A call returns one full 32-bit word (R35). -/
def returnWord (w : Word) (s : State) : Host.Outcome State Fault Refusal := returnOutput (.word w) s

end Sys2Proof.Machine
end

