-- ==== Sys2Proof/Machine/Operands.lean ====
section
/-! DEFINITION. Operand assembly: the shift immediate (R99), FENCE's immediate (R134), the fixed sites of `pack` (R85),
and the field bus of the binary-select realisation (R30). -/

namespace Sys2Proof.Machine

/-- The 12-bit immediate of SLLI, SRLI and SRAI, both parts masked before they are combined (R99, D6). -/
def shiftImm (funct7 shamt : Int) : Nat := pack funct7 7 5 ||| pack shamt 5 0

/-- FENCE's immediate `{fm:4, pred:4, succ:4}` (R134). -/
def fenceImm (fm pred succ : Int) : Nat := pack fm 4 8 ||| pack pred 4 4 ||| pack succ 4 0

/-- The width of a pack site (R45 to R50, R99, R115, R119, R131, R134). -/
def PackSite.width : PackSite → Nat
  | .funct7 => 7
  | .rs2 => 5
  | .rs1 => 5
  | .funct3 => 3
  | .rd => 5
  | .opcode => 7
  | .immI => 12
  | .immU => 20
  | .immS11to5 => 7
  | .immS4to0 => 5
  | .immB12 => 1
  | .immB10to5 => 6
  | .immB4to1 => 4
  | .immB11 => 1
  | .immJ20 => 1
  | .immJ10to1 => 10
  | .immJ11 => 1
  | .immJ19to12 => 8
  | .shiftFunct7 => 7
  | .shiftShamt => 5
  | .fenceFm => 4
  | .fencePred => 4
  | .fenceSucc => 4

/-- The offset of a pack site (R45 to R50, R99, R115, R119, R131, R134). -/
def PackSite.offset : PackSite → Nat
  | .funct7 => 25
  | .rs2 => 20
  | .rs1 => 15
  | .funct3 => 12
  | .rd => 7
  | .opcode => 0
  | .immI => 20
  | .immU => 12
  | .immS11to5 => 25
  | .immS4to0 => 7
  | .immB12 => 31
  | .immB10to5 => 25
  | .immB4to1 => 8
  | .immB11 => 7
  | .immJ20 => 31
  | .immJ10to1 => 21
  | .immJ11 => 20
  | .immJ19to12 => 12
  | .shiftFunct7 => 5
  | .shiftShamt => 0
  | .fenceFm => 8
  | .fencePred => 4
  | .fenceSucc => 0

/-- The request the field bus makes in a format: the inputs that format has (R20 to R25); the other lines are not read. -/
def FieldBus.request (b : FieldBus) : Format → EncodeRequest
  | .R => .R b.funct7 b.rs2 b.rs1 b.funct3 b.rd b.opcode
  | .I => .I b.imm b.rs1 b.funct3 b.rd b.opcode
  | .S => .S b.imm b.rs2 b.rs1 b.funct3 b.opcode
  | .B => .B b.imm b.rs2 b.rs1 b.funct3 b.opcode
  | .U => .U b.imm b.rd b.opcode
  | .J => .J b.imm b.rd b.opcode

/-- The format a select code is assigned to by `SEL_ENCODING`, if any (R30). -/
def formatOfCode (code : Nat) : Option Format :=
  [Format.R, .I, .S, .B, .U, .J].find? (fun f => Config.selEncoding.code f == code)

end Sys2Proof.Machine
end

