-- ==== Sys2Proof/Machine/Branch.lean ====
section
/-! DEFINITION. The six conditional branches (R120 to R125): the word each call returns. What the word does on a CPU is outside
the block (R5). -/

namespace Sys2Proof.Machine

/-- BEQ (R120): `return encode_B(imm, rs2, rs1, 0b000, 0b1100011)`. -/
def execBeq (rs1 rs2 imm : Int) (s : State) : Host.Outcome State Fault Refusal :=
  returnWord (encodeB imm rs2 rs1 0b000 0b1100011) s

/-- BNE (R121): `return encode_B(imm, rs2, rs1, 0b001, 0b1100011)`. -/
def execBne (rs1 rs2 imm : Int) (s : State) : Host.Outcome State Fault Refusal :=
  returnWord (encodeB imm rs2 rs1 0b001 0b1100011) s

/-- BLT (R122): `return encode_B(imm, rs2, rs1, 0b100, 0b1100011)`. -/
def execBlt (rs1 rs2 imm : Int) (s : State) : Host.Outcome State Fault Refusal :=
  returnWord (encodeB imm rs2 rs1 0b100 0b1100011) s

/-- BGE (R123): `return encode_B(imm, rs2, rs1, 0b101, 0b1100011)`. -/
def execBge (rs1 rs2 imm : Int) (s : State) : Host.Outcome State Fault Refusal :=
  returnWord (encodeB imm rs2 rs1 0b101 0b1100011) s

/-- BLTU (R124): `return encode_B(imm, rs2, rs1, 0b110, 0b1100011)`. -/
def execBltu (rs1 rs2 imm : Int) (s : State) : Host.Outcome State Fault Refusal :=
  returnWord (encodeB imm rs2 rs1 0b110 0b1100011) s

/-- BGEU (R125): `return encode_B(imm, rs2, rs1, 0b111, 0b1100011)`. -/
def execBgeu (rs1 rs2 imm : Int) (s : State) : Host.Outcome State Fault Refusal :=
  returnWord (encodeB imm rs2 rs1 0b111 0b1100011) s

end Sys2Proof.Machine
end

