-- ==== Sys2Proof/Machine/ImmediateAlu.lean ====
section
/-! DEFINITION. The six immediate ALU instructions (R100 to R105): the word each call returns. What the word does
on a CPU is outside the block (R5). -/

namespace Sys2Proof.Machine

/-- ADDI (R100): `return encode_I(imm, rs1, 0b000, rd, 0b0010011)`. -/
def execAddi (rd rs1 imm : Int) (s : State) : Host.Outcome State Fault Refusal :=
  returnWord (encodeI imm rs1 0b000 rd 0b0010011) s

/-- SLTI (R101): `return encode_I(imm, rs1, 0b010, rd, 0b0010011)`. -/
def execSlti (rd rs1 imm : Int) (s : State) : Host.Outcome State Fault Refusal :=
  returnWord (encodeI imm rs1 0b010 rd 0b0010011) s

/-- SLTIU (R102): `return encode_I(imm, rs1, 0b011, rd, 0b0010011)`. -/
def execSltiu (rd rs1 imm : Int) (s : State) : Host.Outcome State Fault Refusal :=
  returnWord (encodeI imm rs1 0b011 rd 0b0010011) s

/-- XORI (R103): `return encode_I(imm, rs1, 0b100, rd, 0b0010011)`. -/
def execXori (rd rs1 imm : Int) (s : State) : Host.Outcome State Fault Refusal :=
  returnWord (encodeI imm rs1 0b100 rd 0b0010011) s

/-- ORI (R104): `return encode_I(imm, rs1, 0b110, rd, 0b0010011)`. -/
def execOri (rd rs1 imm : Int) (s : State) : Host.Outcome State Fault Refusal :=
  returnWord (encodeI imm rs1 0b110 rd 0b0010011) s

/-- ANDI (R105): `return encode_I(imm, rs1, 0b111, rd, 0b0010011)`. -/
def execAndi (rd rs1 imm : Int) (s : State) : Host.Outcome State Fault Refusal :=
  returnWord (encodeI imm rs1 0b111 rd 0b0010011) s

end Sys2Proof.Machine
end

