-- ==== Sys2Proof/Machine/Jump.lean ====
section
/-! DEFINITION. JALR (R114) and JAL (R132): the word each call returns. What the word does on a CPU is outside
the block (R5). -/

namespace Sys2Proof.Machine

/-- JALR (R114): `return encode_I(imm, rs1, 0b000, rd, 0b1100111)`; bit 0 of the immediate is kept. -/
def execJalr (rd rs1 imm : Int) (s : State) : Host.Outcome State Fault Refusal :=
  returnWord (encodeI imm rs1 0b000 rd 0b1100111) s

/-- JAL (R132): `return encode_J(imm, rd, 0b1101111)`. -/
def execJal (rd imm : Int) (s : State) : Host.Outcome State Fault Refusal :=
  returnWord (encodeJ imm rd 0b1101111) s

end Sys2Proof.Machine
end

