-- ==== Sys2Proof/Machine/Load.lean ====
section
/-! DEFINITION. The five loads (R109 to R113): the word each call returns. What the word does on a CPU is outside
the block (R5). -/

namespace Sys2Proof.Machine

/-- LB (R109): `return encode_I(imm, rs1, 0b000, rd, 0b0000011)`. No address is computed (R31). -/
def execLb (rd rs1 imm : Int) (s : State) : Host.Outcome State Fault Refusal :=
  returnWord (encodeI imm rs1 0b000 rd 0b0000011) s

/-- LH (R110): `return encode_I(imm, rs1, 0b001, rd, 0b0000011)`. No address is computed (R31). -/
def execLh (rd rs1 imm : Int) (s : State) : Host.Outcome State Fault Refusal :=
  returnWord (encodeI imm rs1 0b001 rd 0b0000011) s

/-- LW (R111): `return encode_I(imm, rs1, 0b010, rd, 0b0000011)`. No address is computed (R31). -/
def execLw (rd rs1 imm : Int) (s : State) : Host.Outcome State Fault Refusal :=
  returnWord (encodeI imm rs1 0b010 rd 0b0000011) s

/-- LBU (R112): `return encode_I(imm, rs1, 0b100, rd, 0b0000011)`. No address is computed (R31). -/
def execLbu (rd rs1 imm : Int) (s : State) : Host.Outcome State Fault Refusal :=
  returnWord (encodeI imm rs1 0b100 rd 0b0000011) s

/-- LHU (R113): `return encode_I(imm, rs1, 0b101, rd, 0b0000011)`. No address is computed (R31). -/
def execLhu (rd rs1 imm : Int) (s : State) : Host.Outcome State Fault Refusal :=
  returnWord (encodeI imm rs1 0b101 rd 0b0000011) s

end Sys2Proof.Machine
end

