-- ==== Sys2Proof/Machine/RType.lean ====
section
/-! DEFINITION. The ten register-register instructions (R88 to R97): the word each call returns. What the word does
on a CPU is outside the block (R5). -/

namespace Sys2Proof.Machine

/-- ADD (R88): `return encode_R(0b0000000, rs2, rs1, 0b000, rd, 0b0110011)`. -/
def execAdd (rd rs1 rs2 : Int) (s : State) : Host.Outcome State Fault Refusal :=
  returnWord (encodeR 0b0000000 rs2 rs1 0b000 rd 0b0110011) s

/-- SUB (R89): `return encode_R(0b0100000, rs2, rs1, 0b000, rd, 0b0110011)`. -/
def execSub (rd rs1 rs2 : Int) (s : State) : Host.Outcome State Fault Refusal :=
  returnWord (encodeR 0b0100000 rs2 rs1 0b000 rd 0b0110011) s

/-- SLL (R90): `return encode_R(0b0000000, rs2, rs1, 0b001, rd, 0b0110011)`. -/
def execSll (rd rs1 rs2 : Int) (s : State) : Host.Outcome State Fault Refusal :=
  returnWord (encodeR 0b0000000 rs2 rs1 0b001 rd 0b0110011) s

/-- SLT (R91): `return encode_R(0b0000000, rs2, rs1, 0b010, rd, 0b0110011)`. -/
def execSlt (rd rs1 rs2 : Int) (s : State) : Host.Outcome State Fault Refusal :=
  returnWord (encodeR 0b0000000 rs2 rs1 0b010 rd 0b0110011) s

/-- SLTU (R92): `return encode_R(0b0000000, rs2, rs1, 0b011, rd, 0b0110011)`. -/
def execSltu (rd rs1 rs2 : Int) (s : State) : Host.Outcome State Fault Refusal :=
  returnWord (encodeR 0b0000000 rs2 rs1 0b011 rd 0b0110011) s

/-- XOR (R93): `return encode_R(0b0000000, rs2, rs1, 0b100, rd, 0b0110011)`. -/
def execXor (rd rs1 rs2 : Int) (s : State) : Host.Outcome State Fault Refusal :=
  returnWord (encodeR 0b0000000 rs2 rs1 0b100 rd 0b0110011) s

/-- SRL (R94): `return encode_R(0b0000000, rs2, rs1, 0b101, rd, 0b0110011)`. -/
def execSrl (rd rs1 rs2 : Int) (s : State) : Host.Outcome State Fault Refusal :=
  returnWord (encodeR 0b0000000 rs2 rs1 0b101 rd 0b0110011) s

/-- SRA (R95): `return encode_R(0b0100000, rs2, rs1, 0b101, rd, 0b0110011)`. -/
def execSra (rd rs1 rs2 : Int) (s : State) : Host.Outcome State Fault Refusal :=
  returnWord (encodeR 0b0100000 rs2 rs1 0b101 rd 0b0110011) s

/-- OR (R96): `return encode_R(0b0000000, rs2, rs1, 0b110, rd, 0b0110011)`. -/
def execOr (rd rs1 rs2 : Int) (s : State) : Host.Outcome State Fault Refusal :=
  returnWord (encodeR 0b0000000 rs2 rs1 0b110 rd 0b0110011) s

/-- AND (R97): `return encode_R(0b0000000, rs2, rs1, 0b111, rd, 0b0110011)`. -/
def execAnd (rd rs1 rs2 : Int) (s : State) : Host.Outcome State Fault Refusal :=
  returnWord (encodeR 0b0000000 rs2 rs1 0b111 rd 0b0110011) s

end Sys2Proof.Machine
end

