-- ==== Sys2Proof/Machine/ShiftImmediate.lean ====
section
/-! DEFINITION. The three shifts by immediate (R106 to R108): the word each call returns. What the word does on a CPU is outside
the block (R5). -/

namespace Sys2Proof.Machine

/-- SLLI (R106): `return encode_I(shift_imm(0b0000000, shamt), rs1, 0b001, rd, 0b0010011)`. -/
def execSlli (rd rs1 shamt : Int) (s : State) : Host.Outcome State Fault Refusal :=
  returnWord (encodeI (shiftImm 0b0000000 shamt) rs1 0b001 rd 0b0010011) s

/-- SRLI (R107): `return encode_I(shift_imm(0b0000000, shamt), rs1, 0b101, rd, 0b0010011)`. -/
def execSrli (rd rs1 shamt : Int) (s : State) : Host.Outcome State Fault Refusal :=
  returnWord (encodeI (shiftImm 0b0000000 shamt) rs1 0b101 rd 0b0010011) s

/-- SRAI (R108): `return encode_I(shift_imm(0b0100000, shamt), rs1, 0b101, rd, 0b0010011)`. -/
def execSrai (rd rs1 shamt : Int) (s : State) : Host.Outcome State Fault Refusal :=
  returnWord (encodeI (shiftImm 0b0100000 shamt) rs1 0b101 rd 0b0010011) s

end Sys2Proof.Machine
end

