-- ==== Sys2Proof/Machine/Store.lean ====
section
/-! DEFINITION. The three stores (R116 to R118): the word each call returns. What the word does on a CPU is outside
the block (R5). -/

namespace Sys2Proof.Machine

/-- SB (R116): `return encode_S(imm, rs2, rs1, 0b000, 0b0100011)`. Nothing is stored (R31). -/
def execSb (rs2 rs1 imm : Int) (s : State) : Host.Outcome State Fault Refusal :=
  returnWord (encodeS imm rs2 rs1 0b000 0b0100011) s

/-- SH (R117): `return encode_S(imm, rs2, rs1, 0b001, 0b0100011)`. Nothing is stored (R31). -/
def execSh (rs2 rs1 imm : Int) (s : State) : Host.Outcome State Fault Refusal :=
  returnWord (encodeS imm rs2 rs1 0b001 0b0100011) s

/-- SW (R118): `return encode_S(imm, rs2, rs1, 0b010, 0b0100011)`. Nothing is stored (R31). -/
def execSw (rs2 rs1 imm : Int) (s : State) : Host.Outcome State Fault Refusal :=
  returnWord (encodeS imm rs2 rs1 0b010 0b0100011) s

end Sys2Proof.Machine
end

