-- ==== Sys2Proof/Machine/System.lean ====
section
/-! DEFINITION. FENCE, ECALL and EBREAK (R134 to R136): the word each call returns. What the word does on a CPU is outside
the block (R5). -/

namespace Sys2Proof.Machine

/-- FENCE (R134): `return encode_I(pack(fm, 4, 8) | pack(pred, 4, 4) | pack(succ, 4, 0), 0, 0b000, 0, 0b0001111)`.
The block orders nothing (R38). -/
def execFence (fm pred succ : Int) (s : State) : Host.Outcome State Fault Refusal :=
  returnWord (encodeI (fenceImm fm pred succ) 0 0b000 0 0b0001111) s

/-- ECALL (R135): `return encode_I(0, 0, 0b000, 0, 0b1110011)`. No exception is raised (R142). -/
def execEcall (s : State) : Host.Outcome State Fault Refusal :=
  returnWord (encodeI 0 0 0b000 0 0b1110011) s

/-- EBREAK (R136): `return encode_I(1, 0, 0b000, 0, 0b1110011)`. No exception is raised (R142). -/
def execEbreak (s : State) : Host.Outcome State Fault Refusal :=
  returnWord (encodeI 1 0 0b000 0 0b1110011) s

end Sys2Proof.Machine
end

