-- ==== Sys2Proof/Machine/Upper.lean ====
section
/-! DEFINITION. LUI and AUIPC (R128, R129): the word each call returns. What the word does on a CPU is outside
the block (R5). -/

namespace Sys2Proof.Machine

/-- LUI (R128): `return encode_U(imm, rd, 0b0110111)`. -/
def execLui (rd imm : Int) (s : State) : Host.Outcome State Fault Refusal :=
  returnWord (encodeU imm rd 0b0110111) s

/-- AUIPC (R129): `return encode_U(imm, rd, 0b0010111)`; nothing is added to any pc (R14). -/
def execAuipc (rd imm : Int) (s : State) : Host.Outcome State Fault Refusal :=
  returnWord (encodeU imm rd 0b0010111) s

end Sys2Proof.Machine
end

