-- ==== Sys2Proof/Machine/Calls.lean ====
section
/-! DEFINITION. Serving one call of each kind, and the call a table word stands for. -/

namespace Sys2Proof.Machine

/-- One call is one transition: "the block reads its arguments and returns the word" (R28). The direct entry points are
R20 to R26, `pack` is R80 at a fixed site (R85), `encode` is R27. A select code that `SEL_ENCODING` does not assign is
refused (R30). -/
def perform (c : Call) (s : State) : Host.Outcome State Fault Refusal :=
  match c with
  | .encodeR funct7 rs2 rs1 funct3 rd opcode => returnWord (encodeR funct7 rs2 rs1 funct3 rd opcode) s
  | .encodeI imm rs1 funct3 rd opcode => returnWord (encodeI imm rs1 funct3 rd opcode) s
  | .encodeS imm rs2 rs1 funct3 opcode => returnWord (encodeS imm rs2 rs1 funct3 opcode) s
  | .encodeB imm rs2 rs1 funct3 opcode => returnWord (encodeB imm rs2 rs1 funct3 opcode) s
  | .encodeU imm rd opcode => returnWord (encodeU imm rd opcode) s
  | .encodeJ imm rd opcode => returnWord (encodeJ imm rd opcode) s
  | .shiftImm funct7 shamt => returnOutput (.imm12 (BitVec.ofNat 12 (shiftImm funct7 shamt))) s
  | .pack site value => returnOutput (.packed (pack value site.width site.offset)) s
  | .encode r => returnWord (encodeRequest r) s
  | .select code bus =>
    match formatOfCode code with
    | some f => returnWord (encodeRequest (bus.request f)) s
    | none => .refused (.unassignedSelect code)
  | .instr i => exec i s

/-- With no call presented there is no output: "a combinational block has no output between calls"
(R154; 93_implementation_defined.md entry 9). Log entry 2. -/
def idle (s : State) : Host.Outcome State Fault Refusal := .next (s.setOutput none)

/-- The raw request whose word is `w`: every field as the word has it, through `encode_R`. A caller that passes the
constants of words outside the table "still gets the word the layout gives" (R137, R67). -/
def rawRequest (w : Word) : EncodeRequest :=
  .R (funct7Of w) (rs2Of w) (rs1Of w) (funct3Of w) (rdOf w) (opcodeOf w)

/-- The call that the bits `w` of a table row stand for: the mnemonic's request, or the raw one for a word of no row
(log entry 4). -/
def tableCall (nbits w : Nat) : Call :=
  match decodeTableWord nbits w with
  | some i => .instr i
  | none => .encode (rawRequest (tableWord nbits w))

end Sys2Proof.Machine
end

