-- ==== Sys2Proof/Machine/Step.lean ====
section
/-! DEFINITION. One step: the next call presented at the input is served (R28, R154). -/

namespace Sys2Proof.Machine

/-- The next call leaves the input and its value is at the output; with no call presented there is no output. -/
def step (s : State) : Host.Outcome State Fault Refusal :=
  match s.calls with
  | [] => idle s
  | c :: rest => perform c (s.setCalls rest)

/-- The call that a table word stands for, presented as the next one. The block fetches nothing (R40): this stands for the
caller (R4). Log entry 4. -/
def State.withFetchWord (s : State) (nbits w : Nat) : State := s.setCalls (tableCall nbits w :: s.calls)

end Sys2Proof.Machine
end

