-- ==== Sys2Proof/Machine/InstrRequest.lean ====
section
/-! DEFINITION. The encoder call of each mnemonic: the format, the constants and the place of each operand that R88 to R136
give (R27's last sentence, R65). The meanings of the families say what a mnemonic's call returns; this says which of the
six requests it makes. -/

namespace Sys2Proof.Machine

/-- The request each mnemonic's rule makes with its constant field set and the caller's operands. -/
def requestOf : Instr → EncodeRequest
  -- R88 to R97
  | .add rd rs1 rs2 => .R 0b0000000 rs2 rs1 0b000 rd 0b0110011
  | .sub rd rs1 rs2 => .R 0b0100000 rs2 rs1 0b000 rd 0b0110011
  | .sll rd rs1 rs2 => .R 0b0000000 rs2 rs1 0b001 rd 0b0110011
  | .slt rd rs1 rs2 => .R 0b0000000 rs2 rs1 0b010 rd 0b0110011
  | .sltu rd rs1 rs2 => .R 0b0000000 rs2 rs1 0b011 rd 0b0110011
  | .xor rd rs1 rs2 => .R 0b0000000 rs2 rs1 0b100 rd 0b0110011
  | .srl rd rs1 rs2 => .R 0b0000000 rs2 rs1 0b101 rd 0b0110011
  | .sra rd rs1 rs2 => .R 0b0100000 rs2 rs1 0b101 rd 0b0110011
  | .or rd rs1 rs2 => .R 0b0000000 rs2 rs1 0b110 rd 0b0110011
  | .and rd rs1 rs2 => .R 0b0000000 rs2 rs1 0b111 rd 0b0110011
  -- R100 to R105
  | .addi rd rs1 imm => .I imm rs1 0b000 rd 0b0010011
  | .slti rd rs1 imm => .I imm rs1 0b010 rd 0b0010011
  | .sltiu rd rs1 imm => .I imm rs1 0b011 rd 0b0010011
  | .xori rd rs1 imm => .I imm rs1 0b100 rd 0b0010011
  | .ori rd rs1 imm => .I imm rs1 0b110 rd 0b0010011
  | .andi rd rs1 imm => .I imm rs1 0b111 rd 0b0010011
  -- R106 to R108
  | .slli rd rs1 shamt => .I (shiftImm 0b0000000 shamt) rs1 0b001 rd 0b0010011
  | .srli rd rs1 shamt => .I (shiftImm 0b0000000 shamt) rs1 0b101 rd 0b0010011
  | .srai rd rs1 shamt => .I (shiftImm 0b0100000 shamt) rs1 0b101 rd 0b0010011
  -- R109 to R113
  | .lb rd rs1 imm => .I imm rs1 0b000 rd 0b0000011
  | .lh rd rs1 imm => .I imm rs1 0b001 rd 0b0000011
  | .lw rd rs1 imm => .I imm rs1 0b010 rd 0b0000011
  | .lbu rd rs1 imm => .I imm rs1 0b100 rd 0b0000011
  | .lhu rd rs1 imm => .I imm rs1 0b101 rd 0b0000011
  -- R114
  | .jalr rd rs1 imm => .I imm rs1 0b000 rd 0b1100111
  -- R116 to R118
  | .sb rs2 rs1 imm => .S imm rs2 rs1 0b000 0b0100011
  | .sh rs2 rs1 imm => .S imm rs2 rs1 0b001 0b0100011
  | .sw rs2 rs1 imm => .S imm rs2 rs1 0b010 0b0100011
  -- R120 to R125
  | .beq rs1 rs2 imm => .B imm rs2 rs1 0b000 0b1100011
  | .bne rs1 rs2 imm => .B imm rs2 rs1 0b001 0b1100011
  | .blt rs1 rs2 imm => .B imm rs2 rs1 0b100 0b1100011
  | .bge rs1 rs2 imm => .B imm rs2 rs1 0b101 0b1100011
  | .bltu rs1 rs2 imm => .B imm rs2 rs1 0b110 0b1100011
  | .bgeu rs1 rs2 imm => .B imm rs2 rs1 0b111 0b1100011
  -- R128 and R129
  | .lui rd imm => .U imm rd 0b0110111
  | .auipc rd imm => .U imm rd 0b0010111
  -- R132
  | .jal rd imm => .J imm rd 0b1101111
  -- R134 to R136
  | .fence fm pred succ => .I (fenceImm fm pred succ) 0 0b000 0 0b0001111
  | .ecall => .I 0 0 0b000 0 0b1110011
  | .ebreak => .I 1 0 0b000 0 0b1110011

end Sys2Proof.Machine
end

