-- ==== Sys2Proof/Machine/Layout.lean ====
section
/-! DEFINITION. The format descriptors: "fixed field widths and bit offsets per the ISA" (R85), one table per format,
as R45 to R50 tabulate them, and the word a table gives. The encoders of Machine/Ops.lean are the spec's pseudocode;
these tables are its second description of the same words. -/

namespace Sys2Proof.Machine

/-- The inputs of the encoders (R20 to R25). -/
inductive FieldName where
  | funct7 | rs2 | rs1 | funct3 | rd | opcode | imm
  deriving DecidableEq, Repr

/-- One line of a layout table: word positions `[hi:lo]` hold the bits of `field` from bit `inputLo` up. -/
structure LayoutRow where
  hi : Nat
  lo : Nat
  field : FieldName
  inputLo : Nat
  deriving DecidableEq, Repr

/-- The layout tables of R45 (R), R46 (I), R47 (S), R48 (B), R49 (U) and R50 (J). -/
def layout : Format → List LayoutRow
  | .R => [⟨31, 25, .funct7, 0⟩, ⟨24, 20, .rs2, 0⟩, ⟨19, 15, .rs1, 0⟩, ⟨14, 12, .funct3, 0⟩, ⟨11, 7, .rd, 0⟩,
      ⟨6, 0, .opcode, 0⟩]
  | .I => [⟨31, 20, .imm, 0⟩, ⟨19, 15, .rs1, 0⟩, ⟨14, 12, .funct3, 0⟩, ⟨11, 7, .rd, 0⟩, ⟨6, 0, .opcode, 0⟩]
  | .S => [⟨31, 25, .imm, 5⟩, ⟨24, 20, .rs2, 0⟩, ⟨19, 15, .rs1, 0⟩, ⟨14, 12, .funct3, 0⟩, ⟨11, 7, .imm, 0⟩,
      ⟨6, 0, .opcode, 0⟩]
  | .B => [⟨31, 31, .imm, 12⟩, ⟨30, 25, .imm, 5⟩, ⟨24, 20, .rs2, 0⟩, ⟨19, 15, .rs1, 0⟩, ⟨14, 12, .funct3, 0⟩,
      ⟨11, 8, .imm, 1⟩, ⟨7, 7, .imm, 11⟩, ⟨6, 0, .opcode, 0⟩]
  | .U => [⟨31, 12, .imm, 0⟩, ⟨11, 7, .rd, 0⟩, ⟨6, 0, .opcode, 0⟩]
  | .J => [⟨31, 31, .imm, 20⟩, ⟨30, 21, .imm, 1⟩, ⟨20, 20, .imm, 11⟩, ⟨19, 12, .imm, 12⟩, ⟨11, 7, .rd, 0⟩,
      ⟨6, 0, .opcode, 0⟩]

/-- The integer a request supplies for a field; 0 for a field its format does not have. -/
def EncodeRequest.input : EncodeRequest → FieldName → Int
  | .R f7 rs2 rs1 f3 rd op, n =>
    match n with
    | .funct7 => f7
    | .rs2 => rs2
    | .rs1 => rs1
    | .funct3 => f3
    | .rd => rd
    | .opcode => op
    | .imm => 0
  | .I imm rs1 f3 rd op, n =>
    match n with
    | .funct7 => 0
    | .rs2 => 0
    | .rs1 => rs1
    | .funct3 => f3
    | .rd => rd
    | .opcode => op
    | .imm => imm
  | .S imm rs2 rs1 f3 op, n =>
    match n with
    | .funct7 => 0
    | .rs2 => rs2
    | .rs1 => rs1
    | .funct3 => f3
    | .rd => 0
    | .opcode => op
    | .imm => imm
  | .B imm rs2 rs1 f3 op, n =>
    match n with
    | .funct7 => 0
    | .rs2 => rs2
    | .rs1 => rs1
    | .funct3 => f3
    | .rd => 0
    | .opcode => op
    | .imm => imm
  | .U imm rd op, n =>
    match n with
    | .funct7 => 0
    | .rs2 => 0
    | .rs1 => 0
    | .funct3 => 0
    | .rd => rd
    | .opcode => op
    | .imm => imm
  | .J imm rd op, n =>
    match n with
    | .funct7 => 0
    | .rs2 => 0
    | .rs1 => 0
    | .funct3 => 0
    | .rd => rd
    | .opcode => op
    | .imm => imm

end Sys2Proof.Machine
end

