-- ==== Sys2Proof/Machine/Render.lean ====
section
/-! DEFINITION. The assembly text of an instruction, 30_encoding.md section 9 (R71 to R79). The renderer is outside the
block (R4); the spec keeps its operand syntax (00_scope.md section 2.1, D10). Log entry 11. -/

namespace Sys2Proof.Machine

/-- "textual form is `x<N>`", `N` in decimal (R71). -/
def regText (r : Int) : String := "x" ++ toString r

/-- Operands "separated by a comma and one space" (R71). -/
def joinOperands : List String → String
  | [] => ""
  | [a] => a
  | a :: rest => a ++ ", " ++ joinOperands rest

/-- A mnemonic, one space, and the operands "separated by a comma and one space" (R71). -/
def lineText (mnemonic : String) (operands : List String) : String :=
  mnemonic ++ " " ++ joinOperands operands

/-- R72. -/
def textR (m : String) (rd rs1 rs2 : Int) : String := lineText m [regText rd, regText rs1, regText rs2]

/-- R73 and R74: the immediate or the shift amount in decimal, as supplied. -/
def textImm (m : String) (rd rs1 imm : Int) : String := lineText m [regText rd, regText rs1, toString imm]

/-- R75 and R76: `<mnemonic> r, imm(rs1)`. -/
def textBase (m : String) (r imm rs1 : Int) : String := lineText m [regText r, toString imm ++ "(" ++ regText rs1 ++ ")"]

/-- R77. -/
def textB (m : String) (rs1 rs2 imm : Int) : String := lineText m [regText rs1, regText rs2, toString imm]

/-- R78. -/
def textRdImm (m : String) (rd imm : Int) : String := lineText m [regText rd, toString imm]

/-- A FENCE set: the letters `i`, `o`, `r`, `w` of bits 3, 2, 1, 0, in that order (R79, R134); `0` for the empty set
(95_test_vectors.md section 4.9). -/
def fenceSetText (v : Int) : String :=
  let letters :=
    (if bitOf v 3 = 1 then "i" else "") ++ (if bitOf v 2 = 1 then "o" else "") ++
      (if bitOf v 1 = 1 then "r" else "") ++ (if bitOf v 0 = 1 then "w" else "")
  if letters = "" then "0" else letters

/-- The canonical text, or none for a FENCE whose fm is not 0, which the spec gives no text (R79; 95_test_vectors.md
section 4.9 writes none for the FENCE.TSO word). -/
def render : Instr → Option String
  | .add rd rs1 rs2 => some (textR "add" rd rs1 rs2)
  | .sub rd rs1 rs2 => some (textR "sub" rd rs1 rs2)
  | .sll rd rs1 rs2 => some (textR "sll" rd rs1 rs2)
  | .slt rd rs1 rs2 => some (textR "slt" rd rs1 rs2)
  | .sltu rd rs1 rs2 => some (textR "sltu" rd rs1 rs2)
  | .xor rd rs1 rs2 => some (textR "xor" rd rs1 rs2)
  | .srl rd rs1 rs2 => some (textR "srl" rd rs1 rs2)
  | .sra rd rs1 rs2 => some (textR "sra" rd rs1 rs2)
  | .or rd rs1 rs2 => some (textR "or" rd rs1 rs2)
  | .and rd rs1 rs2 => some (textR "and" rd rs1 rs2)
  | .addi rd rs1 imm => some (textImm "addi" rd rs1 imm)
  | .slti rd rs1 imm => some (textImm "slti" rd rs1 imm)
  | .sltiu rd rs1 imm => some (textImm "sltiu" rd rs1 imm)
  | .xori rd rs1 imm => some (textImm "xori" rd rs1 imm)
  | .ori rd rs1 imm => some (textImm "ori" rd rs1 imm)
  | .andi rd rs1 imm => some (textImm "andi" rd rs1 imm)
  | .slli rd rs1 shamt => some (textImm "slli" rd rs1 shamt)
  | .srli rd rs1 shamt => some (textImm "srli" rd rs1 shamt)
  | .srai rd rs1 shamt => some (textImm "srai" rd rs1 shamt)
  | .lb rd rs1 imm => some (textBase "lb" rd imm rs1)
  | .lh rd rs1 imm => some (textBase "lh" rd imm rs1)
  | .lw rd rs1 imm => some (textBase "lw" rd imm rs1)
  | .lbu rd rs1 imm => some (textBase "lbu" rd imm rs1)
  | .lhu rd rs1 imm => some (textBase "lhu" rd imm rs1)
  | .jalr rd rs1 imm => some (textBase "jalr" rd imm rs1)
  | .sb rs2 rs1 imm => some (textBase "sb" rs2 imm rs1)
  | .sh rs2 rs1 imm => some (textBase "sh" rs2 imm rs1)
  | .sw rs2 rs1 imm => some (textBase "sw" rs2 imm rs1)
  | .beq rs1 rs2 imm => some (textB "beq" rs1 rs2 imm)
  | .bne rs1 rs2 imm => some (textB "bne" rs1 rs2 imm)
  | .blt rs1 rs2 imm => some (textB "blt" rs1 rs2 imm)
  | .bge rs1 rs2 imm => some (textB "bge" rs1 rs2 imm)
  | .bltu rs1 rs2 imm => some (textB "bltu" rs1 rs2 imm)
  | .bgeu rs1 rs2 imm => some (textB "bgeu" rs1 rs2 imm)
  | .lui rd imm => some (textRdImm "lui" rd imm)
  | .auipc rd imm => some (textRdImm "auipc" rd imm)
  | .jal rd imm => some (textRdImm "jal" rd imm)
  | .fence fm pred succ =>
    if fm = 0 then some (lineText "fence" [fenceSetText pred, fenceSetText succ]) else none
  | .ecall => some "ecall"
  | .ebreak => some "ebreak"

end Sys2Proof.Machine
end

