-- ==== Sys2Proof/Safety.lean ====
section
/-! DEFINITION. What counts as a safe run, and what a caller observes of one. The block has no fault (R140); the one stop
of the model is a select code that `SEL_ENCODING` does not assign (R30). -/

namespace Sys2Proof.Machine

/-- The call has a value: it is no select call, or its code is one `SEL_ENCODING` assigns (R30, R140). -/
def Call.Assigned : Call → Prop
  | .select code _ => ∃ f : Format, Config.selEncoding.code f = code
  | _ => True

/-- The value at the output lies in the range its kind of call gives: a packed field fits the 32-bit word (R80, R44).
A word and a 12-bit immediate are in range by their types (R8, R26). -/
def Output.InRange : Output → Prop
  | .packed n => n < 2 ^ 32
  | _ => True

/-- The invariant of the machine: every call presented has a value, and the value at the output is in range. -/
def State.Inv (s : State) : Prop := (∀ c ∈ s.calls, c.Assigned) ∧ ∀ o, s.output = some o → o.InRange

/-- What the caller is handed over `n` steps, in order: the value each step returns (R28). A refusal ends the list. -/
def outputs : Nat → State → List Output
  | 0, _ => []
  | n + 1, s =>
    match step s with
    | .next s' => s'.output.toList ++ outputs n s'
    | .fault _ => []
    | .refused _ => []

end Sys2Proof.Machine
end

