-- ==== Sys2Proof/Certificates/Slice0/Obligations.lean ====
section
/-! DEFINITION. The statements for the provers. Every statement about a word holds for every integer input (D3): what a
field drops is part of the claim, not a hypothesis. Where a step is taken, the call served is the head of the list of
calls and leaves it: that is the model's interface (log entry 3) and no part of the rule a statement cites. -/

open Sys2Proof Sys2Proof.Machine

/-- Masking, zero extension and a bit range are one integer. Formalises R7. -/
def Obligations.FieldSpellingsAgree : Prop :=
  ∀ (v : Int) (w lo : Nat), 1 ≤ w →
    Int.land v (mask w) = zext w v ∧ zext w v = bits v (w - 1) 0 ∧
      Int.land (v >>> lo) (mask w) = bits v (lo + w - 1) lo

/-- pack(value, width, offset) is the masked value shifted, and sets bits only in its field. Formalises R80. -/
def Obligations.PackerMasksThenShifts : Prop :=
  (∀ (v : Int) (w o : Nat),
    (pack v w o : Int) = Int.land v (mask w) * 2 ^ o ∧ (pack v w o : Int) = zext w v * 2 ^ o ∧
      pack v w o < 2 ^ (o + w) ∧
      ∀ i, (pack v w o).testBit i = true ↔ o ≤ i ∧ i < o + w ∧ bitOf v (i - o) = 1) ∧
    pack (-1) 5 7 = 0xF80 ∧ pack 32 5 7 = 0 ∧ pack 5 5 7 = 0x280

/-- place(value, hi, lo, dest) puts value[hi:lo] at dest and nothing elsewhere. Formalises R83. -/
def Obligations.PlaceTakesTheNamedBits : Prop :=
  (∀ (v : Int) (hi lo dest : Nat), lo ≤ hi →
    place v hi lo dest = pack (v >>> lo) (hi - lo + 1) dest ∧
      (place v hi lo dest : Int) = bits v hi lo * 2 ^ dest ∧
      ∀ i, (place v hi lo dest).testBit i = true ↔ dest ≤ i ∧ i ≤ dest + (hi - lo) ∧ bitOf v (lo + (i - dest)) = 1) ∧
    place (-4) 10 5 25 = pack (-1) 6 25 ∧ place (-4) 10 5 25 = 0x7E000000

/-- Every encoder's word is the OR of its packed parts and equally their sum, with no bit lost at 32. Formalises R8. -/
def Obligations.EncoderResultIsOrAndSumOfParts : Prop :=
  (∀ f7 rs2 rs1 f3 rd op : Int,
      (encodeR f7 rs2 rs1 f3 rd op).toNat = pack f7 7 25 ||| pack rs2 5 20 ||| pack rs1 5 15 ||| pack f3 3 12 |||
        pack rd 5 7 ||| pack op 7 0 ∧
      (encodeR f7 rs2 rs1 f3 rd op).toNat = pack f7 7 25 + pack rs2 5 20 + pack rs1 5 15 + pack f3 3 12 +
        pack rd 5 7 + pack op 7 0) ∧
    (∀ imm rs1 f3 rd op : Int,
      (encodeI imm rs1 f3 rd op).toNat = pack imm 12 20 ||| pack rs1 5 15 ||| pack f3 3 12 ||| pack rd 5 7 |||
        pack op 7 0 ∧
      (encodeI imm rs1 f3 rd op).toNat = pack imm 12 20 + pack rs1 5 15 + pack f3 3 12 + pack rd 5 7 + pack op 7 0) ∧
    (∀ imm rs2 rs1 f3 op : Int,
      (encodeS imm rs2 rs1 f3 op).toNat = place imm 11 5 25 ||| pack rs2 5 20 ||| pack rs1 5 15 ||| pack f3 3 12 |||
        place imm 4 0 7 ||| pack op 7 0 ∧
      (encodeS imm rs2 rs1 f3 op).toNat = place imm 11 5 25 + pack rs2 5 20 + pack rs1 5 15 + pack f3 3 12 +
        place imm 4 0 7 + pack op 7 0) ∧
    (∀ imm rs2 rs1 f3 op : Int,
      (encodeB imm rs2 rs1 f3 op).toNat = place imm 12 12 31 ||| place imm 10 5 25 ||| pack rs2 5 20 |||
        pack rs1 5 15 ||| pack f3 3 12 ||| place imm 4 1 8 ||| place imm 11 11 7 ||| pack op 7 0 ∧
      (encodeB imm rs2 rs1 f3 op).toNat = place imm 12 12 31 + place imm 10 5 25 + pack rs2 5 20 + pack rs1 5 15 +
        pack f3 3 12 + place imm 4 1 8 + place imm 11 11 7 + pack op 7 0) ∧
    (∀ imm rd op : Int,
      (encodeU imm rd op).toNat = pack imm 20 12 ||| pack rd 5 7 ||| pack op 7 0 ∧
      (encodeU imm rd op).toNat = pack imm 20 12 + pack rd 5 7 + pack op 7 0) ∧
    (∀ imm rd op : Int,
      (encodeJ imm rd op).toNat = place imm 20 20 31 ||| place imm 10 1 21 ||| place imm 11 11 20 |||
        place imm 19 12 12 ||| pack rd 5 7 ||| pack op 7 0 ∧
      (encodeJ imm rd op).toNat = place imm 20 20 31 + place imm 10 1 21 + place imm 11 11 20 + place imm 19 12 12 +
        pack rd 5 7 + pack op 7 0)

/-- Each position range of each format's layout table holds the input bits the table names. Formalises R45, R46, R47, R48,
R49, R50. -/
def Obligations.EveryRequestFollowsItsLayout : Prop :=
  (∀ (r : EncodeRequest), ∀ row ∈ layout r.format,
    wordBits (encodeRequest r) row.hi row.lo =
      bits (r.input row.field) (row.inputLo + (row.hi - row.lo)) row.inputLo) ∧
    (∀ imm imm' rs2 rs1 f3 op : Int, bits imm 12 1 = bits imm' 12 1 →
      encodeB imm rs2 rs1 f3 op = encodeB imm' rs2 rs1 f3 op) ∧
    (∀ imm imm' rd op : Int, bits imm 20 1 = bits imm' 20 1 → encodeJ imm rd op = encodeJ imm' rd op)

/-- In every format exactly one field covers each of the 32 positions and gives its bit; the opcode is at [6:0].
Formalises R44. -/
def Obligations.FieldsTileTheWord : Prop :=
  ∀ r : EncodeRequest,
    (∀ i < 32, ∃ row ∈ layout r.format, (row.lo ≤ i ∧ i ≤ row.hi) ∧
      (∀ other ∈ layout r.format, other.lo ≤ i → i ≤ other.hi → other = row) ∧
      ((encodeRequest r).getLsbD i = true ↔ bitOf (r.input row.field) (row.inputLo + (i - row.lo)) = 1)) ∧
    (∀ row ∈ layout r.format, row.hi < 32) ∧
    opcodeOf (encodeRequest r) = zext 7 (r.input .opcode)

/-- The six entry points and the tagged dispatch return the word of their format's layout. Formalises R20, R21, R22, R23,
R24, R25, R27. -/
def Obligations.EntryPointsReturnFormatWords : Prop :=
  ∀ (rest : List Call) (o : Option Output),
    (∀ f7 rs2 rs1 f3 rd op : Int,
      step ⟨.encodeR f7 rs2 rs1 f3 rd op :: rest, o⟩ =
        .next ⟨rest, some (.word (wordR (BitVec.ofInt 7 f7) rs2 rs1 (BitVec.ofInt 3 f3) rd (BitVec.ofInt 7 op)))⟩ ∧
      step ⟨.encode (.R f7 rs2 rs1 f3 rd op) :: rest, o⟩ =
        .next ⟨rest, some (.word (wordR (BitVec.ofInt 7 f7) rs2 rs1 (BitVec.ofInt 3 f3) rd (BitVec.ofInt 7 op)))⟩) ∧
    (∀ imm rs1 f3 rd op : Int,
      step ⟨.encodeI imm rs1 f3 rd op :: rest, o⟩ =
        .next ⟨rest, some (.word (wordI (BitVec.ofInt 12 imm) rs1 (BitVec.ofInt 3 f3) rd (BitVec.ofInt 7 op)))⟩ ∧
      step ⟨.encode (.I imm rs1 f3 rd op) :: rest, o⟩ =
        .next ⟨rest, some (.word (wordI (BitVec.ofInt 12 imm) rs1 (BitVec.ofInt 3 f3) rd (BitVec.ofInt 7 op)))⟩) ∧
    (∀ imm rs2 rs1 f3 op : Int,
      step ⟨.encodeS imm rs2 rs1 f3 op :: rest, o⟩ =
        .next ⟨rest, some (.word (wordS (BitVec.ofInt 12 imm) rs2 rs1 (BitVec.ofInt 3 f3) (BitVec.ofInt 7 op)))⟩ ∧
      step ⟨.encode (.S imm rs2 rs1 f3 op) :: rest, o⟩ =
        .next ⟨rest, some (.word (wordS (BitVec.ofInt 12 imm) rs2 rs1 (BitVec.ofInt 3 f3) (BitVec.ofInt 7 op)))⟩) ∧
    (∀ imm rs2 rs1 f3 op : Int,
      step ⟨.encodeB imm rs2 rs1 f3 op :: rest, o⟩ =
        .next ⟨rest, some (.word (wordB (BitVec.ofInt 13 imm) rs2 rs1 (BitVec.ofInt 3 f3) (BitVec.ofInt 7 op)))⟩ ∧
      step ⟨.encode (.B imm rs2 rs1 f3 op) :: rest, o⟩ =
        .next ⟨rest, some (.word (wordB (BitVec.ofInt 13 imm) rs2 rs1 (BitVec.ofInt 3 f3) (BitVec.ofInt 7 op)))⟩) ∧
    (∀ imm rd op : Int,
      step ⟨.encodeU imm rd op :: rest, o⟩ = .next ⟨rest,
        some (.word (wordU (BitVec.ofInt 20 imm) rd (BitVec.ofInt 7 op)))⟩ ∧
      step ⟨.encode (.U imm rd op) :: rest, o⟩ =
        .next ⟨rest, some (.word (wordU (BitVec.ofInt 20 imm) rd (BitVec.ofInt 7 op)))⟩) ∧
    (∀ imm rd op : Int,
      step ⟨.encodeJ imm rd op :: rest, o⟩ = .next ⟨rest,
        some (.word (wordJ (BitVec.ofInt 21 imm) rd (BitVec.ofInt 7 op)))⟩ ∧
      step ⟨.encode (.J imm rd op) :: rest, o⟩ =
        .next ⟨rest, some (.word (wordJ (BitVec.ofInt 21 imm) rd (BitVec.ofInt 7 op)))⟩)

/-- Re-extracting each field from an encoded word recovers the masked input. Formalises R58. -/
def Obligations.EveryFieldRoundTrips : Prop :=
  (∀ f7 rs2 rs1 f3 rd op : Int, let w := encodeR f7 rs2 rs1 f3 rd op
      opcodeOf w = zext 7 op ∧ funct7Of w = zext 7 f7 ∧ rs2Of w = zext 5 rs2 ∧ rs1Of w = zext 5 rs1 ∧
        funct3Of w = zext 3 f3 ∧ rdOf w = zext 5 rd ∧
        zext 7 (funct7Of w) = zext 7 f7) ∧
    (∀ imm rs1 f3 rd op : Int, let w := encodeI imm rs1 f3 rd op
      opcodeOf w = zext 7 op ∧ immIOf w = sext 12 imm ∧ rs1Of w = zext 5 rs1 ∧ funct3Of w = zext 3 f3 ∧
        rdOf w = zext 5 rd ∧
        zext 12 (immIOf w) = zext 12 imm) ∧
    (∀ imm rs2 rs1 f3 op : Int, let w := encodeS imm rs2 rs1 f3 op
      opcodeOf w = zext 7 op ∧ immSOf w = sext 12 imm ∧ rs2Of w = zext 5 rs2 ∧ rs1Of w = zext 5 rs1 ∧
        funct3Of w = zext 3 f3 ∧
        zext 12 (immSOf w) = zext 12 imm) ∧
    (∀ imm rs2 rs1 f3 op : Int, let w := encodeB imm rs2 rs1 f3 op
      opcodeOf w = zext 7 op ∧ immBOf w = sext 13 imm - zext 1 imm ∧ rs2Of w = zext 5 rs2 ∧ rs1Of w = zext 5 rs1 ∧
        funct3Of w = zext 3 f3 ∧
        zext 13 (immBOf w) = zext 13 imm - zext 1 imm) ∧
    (∀ imm rd op : Int, let w := encodeU imm rd op
      opcodeOf w = zext 7 op ∧ immUOf w = zext 20 imm ∧ rdOf w = zext 5 rd ∧
        zext 20 (immUOf w) = zext 20 imm) ∧
    (∀ imm rd op : Int, let w := encodeJ imm rd op
      opcodeOf w = zext 7 op ∧ immJOf w = sext 21 imm - zext 1 imm ∧ rdOf w = zext 5 rd ∧
        zext 21 (immJOf w) = zext 21 imm - zext 1 imm)

/-- Every mnemonic's call completes with a word whose bits [6:0] are its category's opcode. Formalises R59. -/
def Obligations.OpcodeBitsAreTheCategoryConstant : Prop :=
  ∀ (i : Instr) (s : State), ∃ w : Word,
    exec i s = .next { s with output := some (.word w) } ∧ opcodeOf w = i.opcode

/-- The decoded B and J immediates have bit 0 clear and recover n with bit 0 cleared. Formalises R60. -/
def Obligations.BranchAndJumpImmediatesDecodeEven : Prop :=
  (∀ w : Word, bitOf (immBOf w) 0 = 0 ∧ bitOf (immJOf w) 0 = 0) ∧
    (∀ n rs2 rs1 f3 op : Int, -4096 ≤ n → n ≤ 4095 → immBOf (encodeB n rs2 rs1 f3 op) = n - zext 1 n) ∧
    (∀ n rd op : Int, -1048576 ≤ n → n ≤ 1048575 → immJOf (encodeJ n rd op) = n - zext 1 n)

/-- The minimum and maximum of each format's immediate range decode back to themselves. Formalises R61. -/
def Obligations.RangeEndsDecodeBack : Prop :=
  ∀ rs2 rs1 f3 rd op : Int,
    (∀ n ∈ [(-2048 : Int), 2047],
      immIOf (encodeI n rs1 f3 rd op) = n ∧ immSOf (encodeS n rs2 rs1 f3 op) = n) ∧
    (∀ n ∈ [(-4096 : Int), 4094], immBOf (encodeB n rs2 rs1 f3 op) = n) ∧
    (∀ n ∈ [(0 : Int), 1048575], immUOf (encodeU n rd op) = n) ∧
    (∀ n ∈ [(-1048576 : Int), 1048574], immJOf (encodeJ n rd op) = n)

/-- Every immediate inside its format's range decodes to itself. Formalises R62. -/
def Obligations.InRangeImmediatesAreExact : Prop :=
  ∀ imm rs2 rs1 f3 rd op : Int,
    (-2048 ≤ imm → imm ≤ 2047 →
      immIOf (encodeI imm rs1 f3 rd op) = imm ∧ immSOf (encodeS imm rs2 rs1 f3 op) = imm) ∧
    (-4096 ≤ imm → imm ≤ 4094 → imm % 2 = 0 → immBOf (encodeB imm rs2 rs1 f3 op) = imm) ∧
    (0 ≤ imm → imm ≤ 1048575 → immUOf (encodeU imm rd op) = imm) ∧
    (-1048576 ≤ imm → imm ≤ 1048574 → imm % 2 = 0 → immJOf (encodeJ imm rd op) = imm)

/-- Two calls of one encoder return the same word exactly when every field agrees after masking. Formalises R63. -/
def Obligations.EncodersInjectiveOnMaskedInputs : Prop :=
  (∀ f7 rs2 rs1 f3 rd op f7' rs2' rs1' f3' rd' op' : Int,
      encodeR f7 rs2 rs1 f3 rd op = encodeR f7' rs2' rs1' f3' rd' op' ↔
        zext 7 f7 = zext 7 f7' ∧ zext 5 rs2 = zext 5 rs2' ∧ zext 5 rs1 = zext 5 rs1' ∧ zext 3 f3 = zext 3 f3' ∧
          zext 5 rd = zext 5 rd' ∧ zext 7 op = zext 7 op') ∧
    (∀ imm rs1 f3 rd op imm' rs1' f3' rd' op' : Int,
      encodeI imm rs1 f3 rd op = encodeI imm' rs1' f3' rd' op' ↔
        zext 12 imm = zext 12 imm' ∧ zext 5 rs1 = zext 5 rs1' ∧ zext 3 f3 = zext 3 f3' ∧ zext 5 rd = zext 5 rd' ∧
          zext 7 op = zext 7 op') ∧
    (∀ imm rs2 rs1 f3 op imm' rs2' rs1' f3' op' : Int,
      encodeS imm rs2 rs1 f3 op = encodeS imm' rs2' rs1' f3' op' ↔
        zext 12 imm = zext 12 imm' ∧ zext 5 rs2 = zext 5 rs2' ∧ zext 5 rs1 = zext 5 rs1' ∧ zext 3 f3 = zext 3 f3' ∧
          zext 7 op = zext 7 op') ∧
    (∀ imm rs2 rs1 f3 op imm' rs2' rs1' f3' op' : Int,
      encodeB imm rs2 rs1 f3 op = encodeB imm' rs2' rs1' f3' op' ↔
        maskedB imm = maskedB imm' ∧ zext 5 rs2 = zext 5 rs2' ∧ zext 5 rs1 = zext 5 rs1' ∧ zext 3 f3 = zext 3 f3' ∧
          zext 7 op = zext 7 op') ∧
    (∀ imm rd op imm' rd' op' : Int,
      encodeU imm rd op = encodeU imm' rd' op' ↔
        zext 20 imm = zext 20 imm' ∧ zext 5 rd = zext 5 rd' ∧ zext 7 op = zext 7 op') ∧
    (∀ imm rd op imm' rd' op' : Int,
      encodeJ imm rd op = encodeJ imm' rd' op' ↔
        maskedJ imm = maskedJ imm' ∧ zext 5 rd = zext 5 rd' ∧ zext 7 op = zext 7 op')

/-- An odd B offset is encoded as imm - 1 and an offset outside the range modulo 2^13. Formalises R126. -/
def Obligations.OddAndWideBranchOffsetsAreEncoded : Prop :=
  (∀ imm rs2 rs1 f3 op : Int, imm % 2 = 1 → encodeB imm rs2 rs1 f3 op = encodeB (imm - 1) rs2 rs1 f3 op) ∧
    (∀ imm k rs2 rs1 f3 op : Int, encodeB (imm + 2 ^ 13 * k) rs2 rs1 f3 op = encodeB imm rs2 rs1 f3 op) ∧
    (∀ rs2 rs1 f3 op : Int, encodeB (-3) rs2 rs1 f3 op = encodeB (-4) rs2 rs1 f3 op ∧
      encodeB 4095 rs2 rs1 f3 op = encodeB 4094 rs2 rs1 f3 op ∧
      encodeB 4096 rs2 rs1 f3 op = encodeB (-4096) rs2 rs1 f3 op)

/-- An odd J offset is encoded as imm - 1 and an offset outside the range modulo 2^21. Formalises R133. -/
def Obligations.OddAndWideJumpOffsetsAreEncoded : Prop :=
  (∀ imm rd op : Int, imm % 2 = 1 → encodeJ imm rd op = encodeJ (imm - 1) rd op) ∧
    (∀ imm k rd op : Int, encodeJ (imm + 2 ^ 21 * k) rd op = encodeJ imm rd op) ∧
    (∀ rd op : Int, encodeJ 5 rd op = encodeJ 4 rd op ∧ encodeJ (-1) rd op = encodeJ (-2) rd op ∧
      encodeJ 1048575 rd op = encodeJ 1048574 rd op ∧ encodeJ 1048576 rd op = encodeJ (-1048576) rd op)

/-- U-type keeps the low 20 bits of what it is given: the 32-bit value gives another instruction. Formalises R130. -/
def Obligations.UpperImmediateIsNotTheWholeValue : Prop :=
  (∀ imm rd op : Int, wordBits (encodeU imm rd op) 31 12 = zext 20 imm) ∧
    (∀ v rd op : Int, wordBits (encodeU (v * 2 ^ 12) rd op) 31 12 = zext 8 v * 2 ^ 12) ∧
    (∀ (rd op : Int) (s : State), wordBits (encodeU 0x12345000 rd op) 31 12 = 0x45000 ∧
      exec (.lui rd 0x12345000) s = .next { s with output := some (.word (encodeU 0x45000 rd 0b0110111)) })

/-- shift_imm composes funct7 and shamt as two masked fields, and encode_I puts them at [31:25] and [24:20]. Formalises
R26, R56, R99. -/
def Obligations.ShiftImmediateIsComposedMasked : Prop :=
  (∀ (funct7 shamt : Int) (rest : List Call) (o : Option Output),
    step ⟨.shiftImm funct7 shamt :: rest, o⟩ =
      .next ⟨rest, some (.imm12 (BitVec.ofInt 7 funct7 ++ BitVec.ofInt 5 shamt))⟩ ∧
    shiftImm funct7 shamt = pack funct7 7 5 ||| pack shamt 5 0 ∧ shiftImm funct7 shamt < 4096 ∧
    (shiftImm funct7 shamt : Int) = zext 7 funct7 * 32 + zext 5 shamt) ∧
    (∀ funct7 shamt j k : Int, shiftImm (funct7 + 128 * j) (shamt + 32 * k) = shiftImm funct7 shamt) ∧
    (∀ f s : Nat, f < 128 → s < 32 → shiftImm f s = (f <<< 5 ||| s)) ∧
    (∀ funct7 shamt rs1 f3 rd op : Int, let w := encodeI (shiftImm funct7 shamt) rs1 f3 rd op
      wordBits w 24 20 = zext 5 shamt ∧ wordBits w 31 25 = zext 7 funct7 ∧ wordBits w 30 30 = bitOf funct7 5) ∧
    (∀ funct7 : Int, shiftImm funct7 32 = shiftImm funct7 0 ∧ shiftImm funct7 (-1) = shiftImm funct7 31) ∧
    shiftImm 0b0100000 31 = 0x41F

/-- pack at each of its fixed sites completes with zext_width(value) * 2^offset, inside 32 bits. Rests on
40_field_packer.md R80, R85; 60_exceptions.md R140; 10_state.md section 9 (the pack entry point); NOTES.md log entry
8. -/
def Obligations.PackCallsAnswerInsideTheWord : Prop :=
  ∀ (site : PackSite) (v : Int) (rest : List Call) (o : Option Output), ∃ n : Nat,
    step ⟨.pack site v :: rest, o⟩ = .next ⟨rest, some (.packed n)⟩ ∧
    (n : Int) = zext site.width v * 2 ^ site.offset ∧ site.offset + site.width ≤ 32 ∧ n < 2 ^ 32

/-- The ten register-register mnemonics complete with the R-type word of their constants. Formalises R88, R89, R90, R91,
R92, R93, R94, R95, R96, R97. -/
def Obligations.RegisterRegisterWords : Prop :=
  (∀ (s : State) (rd rs1 rs2 : Int),
    exec (.add rd rs1 rs2) s = .next { s with output := some (.word (encodeR 0b0000000 rs2 rs1 0b000 rd 0b0110011)) } ∧
      encodeR 0b0000000 rs2 rs1 0b000 rd 0b0110011 = wordR 0b0000000#7 rs2 rs1 0b000#3 rd 0b0110011#7 ∧
    exec (.sub rd rs1 rs2) s = .next { s with output := some (.word (encodeR 0b0100000 rs2 rs1 0b000 rd 0b0110011)) } ∧
      encodeR 0b0100000 rs2 rs1 0b000 rd 0b0110011 = wordR 0b0100000#7 rs2 rs1 0b000#3 rd 0b0110011#7 ∧
    exec (.sll rd rs1 rs2) s = .next { s with output := some (.word (encodeR 0b0000000 rs2 rs1 0b001 rd 0b0110011)) } ∧
      encodeR 0b0000000 rs2 rs1 0b001 rd 0b0110011 = wordR 0b0000000#7 rs2 rs1 0b001#3 rd 0b0110011#7 ∧
    exec (.slt rd rs1 rs2) s = .next { s with output := some (.word (encodeR 0b0000000 rs2 rs1 0b010 rd 0b0110011)) } ∧
      encodeR 0b0000000 rs2 rs1 0b010 rd 0b0110011 = wordR 0b0000000#7 rs2 rs1 0b010#3 rd 0b0110011#7 ∧
    exec (.sltu rd rs1 rs2) s = .next { s with output := some (.word (encodeR 0b0000000 rs2 rs1 0b011 rd 0b0110011)) } ∧
      encodeR 0b0000000 rs2 rs1 0b011 rd 0b0110011 = wordR 0b0000000#7 rs2 rs1 0b011#3 rd 0b0110011#7 ∧
    exec (.xor rd rs1 rs2) s = .next { s with output := some (.word (encodeR 0b0000000 rs2 rs1 0b100 rd 0b0110011)) } ∧
      encodeR 0b0000000 rs2 rs1 0b100 rd 0b0110011 = wordR 0b0000000#7 rs2 rs1 0b100#3 rd 0b0110011#7 ∧
    exec (.srl rd rs1 rs2) s = .next { s with output := some (.word (encodeR 0b0000000 rs2 rs1 0b101 rd 0b0110011)) } ∧
      encodeR 0b0000000 rs2 rs1 0b101 rd 0b0110011 = wordR 0b0000000#7 rs2 rs1 0b101#3 rd 0b0110011#7 ∧
    exec (.sra rd rs1 rs2) s = .next { s with output := some (.word (encodeR 0b0100000 rs2 rs1 0b101 rd 0b0110011)) } ∧
      encodeR 0b0100000 rs2 rs1 0b101 rd 0b0110011 = wordR 0b0100000#7 rs2 rs1 0b101#3 rd 0b0110011#7 ∧
    exec (.or rd rs1 rs2) s = .next { s with output := some (.word (encodeR 0b0000000 rs2 rs1 0b110 rd 0b0110011)) } ∧
      encodeR 0b0000000 rs2 rs1 0b110 rd 0b0110011 = wordR 0b0000000#7 rs2 rs1 0b110#3 rd 0b0110011#7 ∧
    exec (.and rd rs1 rs2) s = .next { s with output := some (.word (encodeR 0b0000000 rs2 rs1 0b111 rd 0b0110011)) } ∧
      encodeR 0b0000000 rs2 rs1 0b111 rd 0b0110011 = wordR 0b0000000#7 rs2 rs1 0b111#3 rd 0b0110011#7) ∧
    (∀ s : State,
    exec (.add 1 2 3) s = .next { s with output := some (.word 0x003100B3) } ∧
    exec (.add 0 0 0) s = .next { s with output := some (.word 0x00000033) } ∧
    exec (.sub 5 6 7) s = .next { s with output := some (.word 0x407302B3) } ∧
    exec (.sll 8 9 10) s = .next { s with output := some (.word 0x00A49433) } ∧
    exec (.slt 11 12 13) s = .next { s with output := some (.word 0x00D625B3) } ∧
    exec (.sltu 14 15 16) s = .next { s with output := some (.word 0x0107B733) } ∧
    exec (.xor 17 18 19) s = .next { s with output := some (.word 0x013948B3) } ∧
    exec (.srl 20 21 22) s = .next { s with output := some (.word 0x016ADA33) } ∧
    exec (.sra 23 24 25) s = .next { s with output := some (.word 0x419C5BB3) } ∧
    exec (.or 26 27 28) s = .next { s with output := some (.word 0x01CDED33) } ∧
    exec (.and 29 30 31) s = .next { s with output := some (.word 0x01FF7EB3) } ∧
    exec (.and 31 31 31) s = .next { s with output := some (.word 0x01FFFFB3) }) ∧
    (∀ rd rs1 rs2 : Int, encodeR 0b0100000 rs2 rs1 0b000 rd 0b0110011 ^^^
      encodeR 0b0000000 rs2 rs1 0b000 rd 0b0110011 = 0x40000000 ∧
      encodeR 0b0100000 rs2 rs1 0b101 rd 0b0110011 ^^^ encodeR 0b0000000 rs2 rs1 0b101 rd 0b0110011 = 0x40000000)

/-- The six immediate ALU mnemonics complete with the I-type word of their constants. Formalises R100, R101, R102, R103,
R104, R105. -/
def Obligations.ImmediateAluWords : Prop :=
  (∀ (s : State) (rd rs1 imm : Int),
    exec (.addi rd rs1 imm) s = .next { s with output := some (.word (encodeI imm rs1 0b000 rd 0b0010011)) } ∧
      encodeI imm rs1 0b000 rd 0b0010011 = wordI (BitVec.ofInt 12 imm) rs1 0b000#3 rd 0b0010011#7 ∧
    exec (.slti rd rs1 imm) s = .next { s with output := some (.word (encodeI imm rs1 0b010 rd 0b0010011)) } ∧
      encodeI imm rs1 0b010 rd 0b0010011 = wordI (BitVec.ofInt 12 imm) rs1 0b010#3 rd 0b0010011#7 ∧
    exec (.sltiu rd rs1 imm) s = .next { s with output := some (.word (encodeI imm rs1 0b011 rd 0b0010011)) } ∧
      encodeI imm rs1 0b011 rd 0b0010011 = wordI (BitVec.ofInt 12 imm) rs1 0b011#3 rd 0b0010011#7 ∧
    exec (.xori rd rs1 imm) s = .next { s with output := some (.word (encodeI imm rs1 0b100 rd 0b0010011)) } ∧
      encodeI imm rs1 0b100 rd 0b0010011 = wordI (BitVec.ofInt 12 imm) rs1 0b100#3 rd 0b0010011#7 ∧
    exec (.ori rd rs1 imm) s = .next { s with output := some (.word (encodeI imm rs1 0b110 rd 0b0010011)) } ∧
      encodeI imm rs1 0b110 rd 0b0010011 = wordI (BitVec.ofInt 12 imm) rs1 0b110#3 rd 0b0010011#7 ∧
    exec (.andi rd rs1 imm) s = .next { s with output := some (.word (encodeI imm rs1 0b111 rd 0b0010011)) } ∧
      encodeI imm rs1 0b111 rd 0b0010011 = wordI (BitVec.ofInt 12 imm) rs1 0b111#3 rd 0b0010011#7) ∧
    (∀ s : State,
    exec (.addi 5 0 (-1)) s = .next { s with output := some (.word 0xFFF00293) } ∧
    exec (.addi 5 3 (-17)) s = .next { s with output := some (.word 0xFEF18293) } ∧
    exec (.addi 0 0 0) s = .next { s with output := some (.word 0x00000013) } ∧
    exec (.slti 1 2 (-2048)) s = .next { s with output := some (.word 0x80012093) } ∧
    exec (.sltiu 3 4 2047) s = .next { s with output := some (.word 0x7FF23193) } ∧
    exec (.xori 5 6 (-1)) s = .next { s with output := some (.word 0xFFF34293) } ∧
    exec (.ori 7 8 1365) s = .next { s with output := some (.word 0x55546393) } ∧
    exec (.andi 9 10 255) s = .next { s with output := some (.word 0x0FF57493) }) ∧
    wordBits (encodeI (-1) 4 0b011 3 0b0010011) 31 20 = 0xFFF

/-- SLLI, SRLI and SRAI complete with the I-type word of shift_imm of their constants. Formalises R106, R107, R108. -/
def Obligations.ShiftByImmediateWords : Prop :=
  (∀ (s : State) (rd rs1 shamt : Int),
    exec (.slli rd rs1 shamt) s = .next { s with output := some (.word (encodeI (shiftImm 0b0000000 shamt) rs1 0b001 rd 0b0010011)) } ∧
      encodeI (shiftImm 0b0000000 shamt) rs1 0b001 rd 0b0010011 =
        wordI (0b0000000#7 ++ BitVec.ofInt 5 shamt) rs1 0b001#3 rd 0b0010011#7 ∧
    exec (.srli rd rs1 shamt) s = .next { s with output := some (.word (encodeI (shiftImm 0b0000000 shamt) rs1 0b101 rd 0b0010011)) } ∧
      encodeI (shiftImm 0b0000000 shamt) rs1 0b101 rd 0b0010011 =
        wordI (0b0000000#7 ++ BitVec.ofInt 5 shamt) rs1 0b101#3 rd 0b0010011#7 ∧
    exec (.srai rd rs1 shamt) s = .next { s with output := some (.word (encodeI (shiftImm 0b0100000 shamt) rs1 0b101 rd 0b0010011)) } ∧
      encodeI (shiftImm 0b0100000 shamt) rs1 0b101 rd 0b0010011 =
        wordI (0b0100000#7 ++ BitVec.ofInt 5 shamt) rs1 0b101#3 rd 0b0010011#7) ∧
    (∀ s : State,
    exec (.slli 1 2 31) s = .next { s with output := some (.word 0x01F11093) } ∧
    exec (.srli 3 4 1) s = .next { s with output := some (.word 0x00125193) } ∧
    exec (.srai 5 6 31) s = .next { s with output := some (.word 0x41F35293) }) ∧
    (∀ rd rs1 shamt : Int, encodeI (shiftImm 0b0100000 shamt) rs1 0b101 rd 0b0010011 ^^^
      encodeI (shiftImm 0b0000000 shamt) rs1 0b101 rd 0b0010011 = 0x40000000) ∧
    (∀ (s : State) (rd rs1 shamt k : Int), exec (.slli rd rs1 (shamt + 32 * k)) s = exec (.slli rd rs1 shamt) s ∧
      exec (.srli rd rs1 (shamt + 32 * k)) s = exec (.srli rd rs1 shamt) s ∧
      exec (.srai rd rs1 (shamt + 32 * k)) s = exec (.srai rd rs1 shamt) s)

/-- The five loads and JALR complete with the I-type word of their constants. Formalises R109, R110, R111, R112, R113,
R114. -/
def Obligations.LoadAndJalrWords : Prop :=
  (∀ (s : State) (rd rs1 imm : Int),
    exec (.lb rd rs1 imm) s = .next { s with output := some (.word (encodeI imm rs1 0b000 rd 0b0000011)) } ∧
      encodeI imm rs1 0b000 rd 0b0000011 = wordI (BitVec.ofInt 12 imm) rs1 0b000#3 rd 0b0000011#7 ∧
    exec (.lh rd rs1 imm) s = .next { s with output := some (.word (encodeI imm rs1 0b001 rd 0b0000011)) } ∧
      encodeI imm rs1 0b001 rd 0b0000011 = wordI (BitVec.ofInt 12 imm) rs1 0b001#3 rd 0b0000011#7 ∧
    exec (.lw rd rs1 imm) s = .next { s with output := some (.word (encodeI imm rs1 0b010 rd 0b0000011)) } ∧
      encodeI imm rs1 0b010 rd 0b0000011 = wordI (BitVec.ofInt 12 imm) rs1 0b010#3 rd 0b0000011#7 ∧
    exec (.lbu rd rs1 imm) s = .next { s with output := some (.word (encodeI imm rs1 0b100 rd 0b0000011)) } ∧
      encodeI imm rs1 0b100 rd 0b0000011 = wordI (BitVec.ofInt 12 imm) rs1 0b100#3 rd 0b0000011#7 ∧
    exec (.lhu rd rs1 imm) s = .next { s with output := some (.word (encodeI imm rs1 0b101 rd 0b0000011)) } ∧
      encodeI imm rs1 0b101 rd 0b0000011 = wordI (BitVec.ofInt 12 imm) rs1 0b101#3 rd 0b0000011#7 ∧
    exec (.jalr rd rs1 imm) s = .next { s with output := some (.word (encodeI imm rs1 0b000 rd 0b1100111)) } ∧
      encodeI imm rs1 0b000 rd 0b1100111 = wordI (BitVec.ofInt 12 imm) rs1 0b000#3 rd 0b1100111#7) ∧
    (∀ s : State,
    exec (.lb 1 2 0) s = .next { s with output := some (.word 0x00010083) } ∧
    exec (.lh 3 4 (-2)) s = .next { s with output := some (.word 0xFFE21183) } ∧
    exec (.lw 5 6 2047) s = .next { s with output := some (.word 0x7FF32283) } ∧
    exec (.lbu 7 8 (-2048)) s = .next { s with output := some (.word 0x80044383) } ∧
    exec (.lhu 9 10 100) s = .next { s with output := some (.word 0x06455483) } ∧
    exec (.jalr 1 2 4) s = .next { s with output := some (.word 0x004100E7) }) ∧
    (∀ rd rs1 imm : Int, wordBits (encodeI imm rs1 0b000 rd 0b1100111) 20 20 = bitOf imm 0)

/-- The three stores complete with the S-type word of their constants, the immediate split. Formalises R115, R116, R117,
R118. -/
def Obligations.StoreWords : Prop :=
  (∀ (s : State) (rs2 rs1 imm : Int),
    exec (.sb rs2 rs1 imm) s = .next { s with output := some (.word (encodeS imm rs2 rs1 0b000 0b0100011)) } ∧
      encodeS imm rs2 rs1 0b000 0b0100011 = wordS (BitVec.ofInt 12 imm) rs2 rs1 0b000#3 0b0100011#7 ∧
    exec (.sh rs2 rs1 imm) s = .next { s with output := some (.word (encodeS imm rs2 rs1 0b001 0b0100011)) } ∧
      encodeS imm rs2 rs1 0b001 0b0100011 = wordS (BitVec.ofInt 12 imm) rs2 rs1 0b001#3 0b0100011#7 ∧
    exec (.sw rs2 rs1 imm) s = .next { s with output := some (.word (encodeS imm rs2 rs1 0b010 0b0100011)) } ∧
      encodeS imm rs2 rs1 0b010 0b0100011 = wordS (BitVec.ofInt 12 imm) rs2 rs1 0b010#3 0b0100011#7) ∧
    (∀ s : State,
    exec (.sb 1 2 0) s = .next { s with output := some (.word 0x00110023) } ∧
    exec (.sh 3 4 (-2)) s = .next { s with output := some (.word 0xFE321F23) } ∧
    exec (.sw 5 6 2047) s = .next { s with output := some (.word 0x7E532FA3) } ∧
    exec (.sw 0 0 (-1)) s = .next { s with output := some (.word 0xFE002FA3) }) ∧
    (∀ imm rs2 rs1 f3 op : Int,
      encodeS imm rs2 rs1 f3 op = BitVec.ofNat 32 (place imm 11 5 25 ||| pack rs2 5 20 ||| pack rs1 5 15 |||
        pack f3 3 12 ||| place imm 4 0 7 ||| pack op 7 0) ∧
      encodeS imm rs2 rs1 f3 op = wordS (BitVec.ofInt 12 imm) rs2 rs1 (BitVec.ofInt 3 f3) (BitVec.ofInt 7 op)) ∧
    (∀ rs2 rs1 f3 op : Int, let p := fun imm => (wordBits (encodeS imm rs2 rs1 f3 op) 31 25,
      wordBits (encodeS imm rs2 rs1 f3 op) 11 7)
      p (-1) = (0x7F, 0x1F) ∧ p (-2048) = (0x40, 0) ∧ p 2047 = (0x3F, 0x1F) ∧
      encodeS 2048 rs2 rs1 f3 op = encodeS (-2048) rs2 rs1 f3 op)

/-- The six branches complete with the B-type word of their constants, the offset scattered. Formalises R120, R121, R122,
R123, R124, R125. -/
def Obligations.BranchWords : Prop :=
  (∀ (s : State) (rs1 rs2 imm : Int),
    exec (.beq rs1 rs2 imm) s = .next { s with output := some (.word (encodeB imm rs2 rs1 0b000 0b1100011)) } ∧
      encodeB imm rs2 rs1 0b000 0b1100011 = wordB (BitVec.ofInt 13 imm) rs2 rs1 0b000#3 0b1100011#7 ∧
    exec (.bne rs1 rs2 imm) s = .next { s with output := some (.word (encodeB imm rs2 rs1 0b001 0b1100011)) } ∧
      encodeB imm rs2 rs1 0b001 0b1100011 = wordB (BitVec.ofInt 13 imm) rs2 rs1 0b001#3 0b1100011#7 ∧
    exec (.blt rs1 rs2 imm) s = .next { s with output := some (.word (encodeB imm rs2 rs1 0b100 0b1100011)) } ∧
      encodeB imm rs2 rs1 0b100 0b1100011 = wordB (BitVec.ofInt 13 imm) rs2 rs1 0b100#3 0b1100011#7 ∧
    exec (.bge rs1 rs2 imm) s = .next { s with output := some (.word (encodeB imm rs2 rs1 0b101 0b1100011)) } ∧
      encodeB imm rs2 rs1 0b101 0b1100011 = wordB (BitVec.ofInt 13 imm) rs2 rs1 0b101#3 0b1100011#7 ∧
    exec (.bltu rs1 rs2 imm) s = .next { s with output := some (.word (encodeB imm rs2 rs1 0b110 0b1100011)) } ∧
      encodeB imm rs2 rs1 0b110 0b1100011 = wordB (BitVec.ofInt 13 imm) rs2 rs1 0b110#3 0b1100011#7 ∧
    exec (.bgeu rs1 rs2 imm) s = .next { s with output := some (.word (encodeB imm rs2 rs1 0b111 0b1100011)) } ∧
      encodeB imm rs2 rs1 0b111 0b1100011 = wordB (BitVec.ofInt 13 imm) rs2 rs1 0b111#3 0b1100011#7) ∧
    (∀ s : State,
    exec (.beq 0 1 (-4)) s = .next { s with output := some (.word 0xFE100EE3) } ∧
    exec (.beq 0 1 (-12)) s = .next { s with output := some (.word 0xFE100AE3) } ∧
    exec (.bne 1 0 (-8)) s = .next { s with output := some (.word 0xFE009CE3) } ∧
    exec (.blt 2 3 4094) s = .next { s with output := some (.word 0x7E314FE3) } ∧
    exec (.bge 4 5 (-4096)) s = .next { s with output := some (.word 0x80525063) } ∧
    exec (.bltu 6 7 16) s = .next { s with output := some (.word 0x00736863) } ∧
    exec (.bgeu 8 9 2) s = .next { s with output := some (.word 0x00947163) })

/-- LUI and AUIPC complete with the U-type word of their constants. Formalises R127, R128, R129. -/
def Obligations.UpperImmediateWords : Prop :=
  (∀ (s : State) (rd imm : Int),
    exec (.lui rd imm) s = .next { s with output := some (.word (encodeU imm rd 0b0110111)) } ∧
      encodeU imm rd 0b0110111 = wordU (BitVec.ofInt 20 imm) rd 0b0110111#7 ∧
    exec (.auipc rd imm) s = .next { s with output := some (.word (encodeU imm rd 0b0010111)) } ∧
      encodeU imm rd 0b0010111 = wordU (BitVec.ofInt 20 imm) rd 0b0010111#7) ∧
    (∀ s : State,
    exec (.lui 10 1048575) s = .next { s with output := some (.word 0xFFFFF537) } ∧
    exec (.auipc 1 74565) s = .next { s with output := some (.word 0x12345097) }) ∧
    (∀ imm rd op : Int,
      encodeU imm rd op = BitVec.ofNat 32 (pack imm 20 12 ||| pack rd 5 7 ||| pack op 7 0) ∧
      encodeU imm rd op = wordU (BitVec.ofInt 20 imm) rd (BitVec.ofInt 7 op)) ∧
    (∀ rd op : Int, wordBits (encodeU 0xFFFFF rd op) 31 12 = 0xFFFFF ∧ wordBits (encodeU 0 rd op) 31 12 = 0 ∧
      encodeU (-1) rd op = encodeU 0xFFFFF rd op ∧ encodeU 0x100000 rd op = encodeU 0 rd op)

/-- JAL completes with the J-type word of its constants, the offset scattered. Formalises R131, R132. -/
def Obligations.JumpAndLinkWords : Prop :=
  (∀ (s : State) (rd imm : Int),
    exec (.jal rd imm) s = .next { s with output := some (.word (encodeJ imm rd 0b1101111)) } ∧
      encodeJ imm rd 0b1101111 = wordJ (BitVec.ofInt 21 imm) rd 0b1101111#7) ∧
    (∀ s : State,
    exec (.jal 1 4) s = .next { s with output := some (.word 0x004000EF) } ∧
    exec (.jal 0 0) s = .next { s with output := some (.word 0x0000006F) }) ∧
    (∀ imm rd op : Int,
      encodeJ imm rd op = BitVec.ofNat 32 (place imm 20 20 31 ||| place imm 10 1 21 ||| place imm 11 11 20 |||
        place imm 19 12 12 ||| pack rd 5 7 ||| pack op 7 0) ∧
      encodeJ imm rd op = wordJ (BitVec.ofInt 21 imm) rd (BitVec.ofInt 7 op) ∧
      immJOf (encodeJ imm rd op) = sext 21 imm - zext 1 imm) ∧
    (∀ rd op : Int, wordBits (encodeJ (-1048576) rd op) 31 12 = 0x80000 ∧ wordBits (encodeJ 1048574 rd op) 31 12 =
      0x7FFFF) ∧
    (∀ w : Word, immJOf w % 2 = 0)

/-- FENCE, ECALL and EBREAK complete with the I-type words of their fixed fields. Formalises R134, R135, R136. -/
def Obligations.FenceEcallEbreakWords : Prop :=
  (∀ (s : State) (fm pred succ : Int),
    exec (.fence fm pred succ) s = .next { s with output := some (.word (encodeI (pack fm 4 8 ||| pack pred 4 4 |||
      pack succ 4 0 : Nat) 0 0b000 0 0b0001111)) } ∧
      encodeI (pack fm 4 8 ||| pack pred 4 4 ||| pack succ 4 0 : Nat) 0 0b000 0 0b0001111 =
        wordI (BitVec.ofInt 4 fm ++ BitVec.ofInt 4 pred ++ BitVec.ofInt 4 succ) 0 0b000#3 0 0b0001111#7 ∧
    exec .ecall s = .next { s with output := some (.word (encodeI 0 0 0b000 0 0b1110011)) } ∧
      encodeI 0 0 0b000 0 0b1110011 = wordI 0#12 0 0b000#3 0 0b1110011#7 ∧
    exec .ebreak s = .next { s with output := some (.word (encodeI 1 0 0b000 0 0b1110011)) } ∧
      encodeI 1 0 0b000 0 0b1110011 = wordI 1#12 0 0b000#3 0 0b1110011#7) ∧
    (∀ s : State,
    exec (.fence 0 0b1111 0b1111) s = .next { s with output := some (.word 0x0FF0000F) } ∧
    exec (.fence 0b1000 0b0011 0b0011) s = .next { s with output := some (.word 0x8330000F) } ∧
    exec .ecall s = .next { s with output := some (.word 0x00000073) } ∧
    exec .ebreak s = .next { s with output := some (.word 0x00100073) }) ∧
    encodeI 0 0 0b000 0 0b1110011 ^^^ encodeI 1 0 0b000 0 0b1110011 = 0x00100000

/-- encode_R is the R layout of its masked inputs, with the rule's corner cases and example. Formalises R87. -/
def Obligations.RegisterEncoderCorners : Prop :=
  (∀ f7 rs2 rs1 f3 rd op : Int,
    encodeR f7 rs2 rs1 f3 rd op = BitVec.ofNat 32 (pack f7 7 25 ||| pack rs2 5 20 ||| pack rs1 5 15 |||
      pack f3 3 12 ||| pack rd 5 7 ||| pack op 7 0) ∧
    encodeR f7 rs2 rs1 f3 rd op =
      wordR (BitVec.ofInt 7 f7) rs2 rs1 (BitVec.ofInt 3 f3) rd (BitVec.ofInt 7 op) ∧
    rdOf (encodeR f7 rs2 rs1 f3 37 op) = 5 ∧ funct7Of (encodeR (-96) rs2 rs1 f3 rd op) = 0b0100000 ∧
    ∀ a b c d e f : Int, encodeR (f7 + 2 ^ 7 * a) (rs2 + 2 ^ 5 * b) (rs1 + 2 ^ 5 * c) (f3 + 2 ^ 3 * d) (rd +
      2 ^ 5 * e)
      (op + 2 ^ 7 * f) = encodeR f7 rs2 rs1 f3 rd op) ∧
    encodeR 0 3 2 0 1 0b0110011 = 0x003100B3

/-- encode_I is the I layout of its masked inputs, with the rule's corner cases and example. Formalises R51, R98. -/
def Obligations.ImmediateEncoderCorners : Prop :=
  (∀ imm rs1 f3 rd op : Int,
    encodeI imm rs1 f3 rd op = BitVec.ofNat 32 (pack imm 12 20 ||| pack rs1 5 15 ||| pack f3 3 12 ||| pack rd 5 7 |||
      pack op 7 0) ∧
    encodeI imm rs1 f3 rd op = wordI (BitVec.ofInt 12 imm) rs1 (BitVec.ofInt 3 f3) rd (BitVec.ofInt 7 op) ∧
    wordBits (encodeI imm rs1 f3 rd op) 31 20 = zext 12 imm ∧
    wordBits (encodeI (-1) rs1 f3 rd op) 31 20 = 0xFFF ∧ wordBits (encodeI (-2048) rs1 f3 rd op) 31 20 = 0x800 ∧
    wordBits (encodeI 2047 rs1 f3 rd op) 31 20 = 0x7FF ∧
    encodeI 2048 rs1 f3 rd op = encodeI (-2048) rs1 f3 rd op ∧ encodeI 4096 rs1 f3 rd op = encodeI 0 rs1 f3 rd op) ∧
    encodeI (-1) 0 0 5 0b0010011 = 0xFFF00293

/-- encode_B is the B layout of its masked inputs, with the rule's corner cases and example. Formalises R53, R119. -/
def Obligations.BranchEncoderCorners : Prop :=
  (∀ imm rs2 rs1 f3 op : Int,
    encodeB imm rs2 rs1 f3 op = BitVec.ofNat 32 (place imm 12 12 31 ||| place imm 10 5 25 ||| pack rs2 5 20 |||
      pack rs1 5 15 ||| pack f3 3 12 ||| place imm 4 1 8 ||| place imm 11 11 7 ||| pack op 7 0) ∧
    encodeB imm rs2 rs1 f3 op = wordB (BitVec.ofInt 13 imm) rs2 rs1 (BitVec.ofInt 3 f3) (BitVec.ofInt 7 op) ∧
    wordBits (encodeB imm rs2 rs1 f3 op) 8 8 = bitOf imm 1 ∧
    encodeB (maskedB imm) rs2 rs1 f3 op = encodeB imm rs2 rs1 f3 op ∧
    immBOf (encodeB imm rs2 rs1 f3 op) = maskedB imm ∧ maskedB imm % 2 = 0) ∧
    (∀ rs2 rs1 f3 op : Int,
      let p := fun imm => (wordBits (encodeB imm rs2 rs1 f3 op) 31 25, wordBits (encodeB imm rs2 rs1 f3 op) 11 7)
      p (-4096) = (0x40, 0) ∧ p 4094 = (0x3F, 0x1F) ∧ p 0 = (0, 0)) ∧
    encodeB (-4) 1 0 0 0b1100011 = 0xFE100EE3

/-- Every mnemonic with any operands completes exactly as with its operands masked: nothing is rejected. Formalises R139. -/
def Obligations.OutOfRangeOperandsAreTruncated : Prop :=
  ∀ (i : Instr) (s : State), exec i s = exec i.masked s ∧
    ∃ w : Word, exec i s = .next { s with output := some (.word w) }

/-- A register index outside [0, 31] encodes as its low 5 bits, in every format. Formalises R12. -/
def Obligations.RegisterIndicesAreMasked : Prop :=
  (∀ f7 rs2 rs1 f3 rd op imm a b c : Int,
    encodeR f7 (rs2 + 32 * a) (rs1 + 32 * b) f3 (rd + 32 * c) op = encodeR f7 rs2 rs1 f3 rd op ∧
    encodeI imm (rs1 + 32 * b) f3 (rd + 32 * c) op = encodeI imm rs1 f3 rd op ∧
    encodeS imm (rs2 + 32 * a) (rs1 + 32 * b) f3 op = encodeS imm rs2 rs1 f3 op ∧
    encodeB imm (rs2 + 32 * a) (rs1 + 32 * b) f3 op = encodeB imm rs2 rs1 f3 op ∧
    encodeU imm (rd + 32 * c) op = encodeU imm rd op ∧ encodeJ imm (rd + 32 * c) op = encodeJ imm rd op) ∧
    (∀ r : Int, ∀ p ∈ [(r, zext 5 r), (32, 0), (33, 1), (-1, 31)], ∀ f7 x y f3 op imm : Int,
      rdOf (encodeR f7 x y f3 p.1 op) = p.2 ∧ rs1Of (encodeR f7 x p.1 f3 y op) = p.2 ∧
      rs2Of (encodeR f7 p.1 x f3 y op) = p.2 ∧ rdOf (encodeI imm x f3 p.1 op) = p.2 ∧
      rs1Of (encodeI imm p.1 f3 x op) = p.2 ∧ rs1Of (encodeS imm x p.1 f3 op) = p.2 ∧
      rs2Of (encodeS imm p.1 x f3 op) = p.2 ∧ rs1Of (encodeB imm x p.1 f3 op) = p.2 ∧
      rs2Of (encodeB imm p.1 x f3 op) = p.2 ∧ rdOf (encodeU imm p.1 op) = p.2 ∧ rdOf (encodeJ imm p.1 op) = p.2)

/-- Every 32-bit word is the word of some request in each of the six formats, illegal words included. Rests on
30_encoding.md R57, R67, R68 (no illegal input, no constant checked); 47_system.md R137. -/
def Obligations.EveryWordIsProduced : Prop :=
  (∀ w : Word,
    encodeR (funct7Of w) (rs2Of w) (rs1Of w) (funct3Of w) (rdOf w) (opcodeOf w) = w ∧
    encodeI (immIOf w) (rs1Of w) (funct3Of w) (rdOf w) (opcodeOf w) = w ∧
    encodeS (immSOf w) (rs2Of w) (rs1Of w) (funct3Of w) (opcodeOf w) = w ∧
    encodeB (immBOf w) (rs2Of w) (rs1Of w) (funct3Of w) (opcodeOf w) = w ∧
    encodeU (immUOf w) (rdOf w) (opcodeOf w) = w ∧ encodeJ (immJOf w) (rdOf w) (opcodeOf w) = w) ∧
    encodeR 0 0 0 0 0 0 = 0x00000000 ∧ encodeI (-1) (-1) (-1) (-1) (-1) = 0xFFFFFFFF

/-- Each misuse the spec lists completes with the truncated word, at the mnemonics' calls. Formalises R160. -/
def Obligations.SilentMisuseGivesAnotherWord : Prop :=
  (∀ (i : Instr) (s : State), exec i s = exec i.masked s) ∧
    (∀ (s : State) (rd rs1 rs2 imm k : Int),
    exec (.lui rd (imm * 2 ^ 12)) s = exec (.lui rd (zext 8 imm * 2 ^ 12)) s ∧
    (imm % 2 = 1 → exec (.bne rs1 rs2 imm) s = exec (.bne rs1 rs2 (imm - 1)) s ∧
      exec (.jal rd imm) s = exec (.jal rd (imm - 1)) s) ∧
    exec (.bge rs1 rs2 (imm + 2 ^ 13 * k)) s = exec (.bge rs1 rs2 imm) s ∧
    exec (.jal rd (imm + 2 ^ 21 * k)) s = exec (.jal rd imm) s ∧
    exec (.slli rd rs1 (imm + 2 ^ 5 * k)) s = exec (.slli rd rs1 imm) s ∧
    exec (.add (rd + 2 ^ 5 * k) rs1 rs2) s = exec (.add rd rs1 rs2) s ∧
    exec (.addi rd rs1 (imm + 2 ^ 12 * k)) s = exec (.addi rd rs1 imm) s ∧
    exec (.sw rs2 rs1 (imm + 2 ^ 12 * k)) s = exec (.sw rs2 rs1 imm) s) ∧
    (∀ s : State, exec (.lui 5 0x12345000) s = .next { s with output := some (.word 0x450002B7) } ∧
      exec (.bne 1 0 7) s = .next { s with output := some (.word 0x00009363) } ∧
      exec (.jal 0 4097) s = .next { s with output := some (.word 0x0000106F) } ∧
      exec (.bge 1 2 5000) s = .next { s with output := some (.word 0xB820D463) } ∧
      exec (.slli 1 1 40) s = .next { s with output := some (.word 0x00809093) } ∧
      exec (.add 32 1 2) s = .next { s with output := some (.word 0x00208033) } ∧
      exec (.addi 1 1 3000) s = .next { s with output := some (.word 0xBB808093) })

/-- What a call returns depends on the call alone: not on the calls after it, nor on the last output. Formalises R28. -/
def Obligations.OneCallIsOneTransition : Prop :=
  ∀ (c : Call) (rest rest' : List Call) (o o' : Option Output),
    (∃ v : Output, step ⟨c :: rest, o⟩ = .next ⟨rest, some v⟩ ∧ step ⟨c :: rest', o'⟩ = .next ⟨rest', some v⟩) ∨
    (∃ (code : Nat) (bus : FieldBus), c = .select code bus ∧ (∀ f, Config.selEncoding.code f ≠ code) ∧
      step ⟨c :: rest, o⟩ = .refused (.unassignedSelect code) ∧
      step ⟨c :: rest', o'⟩ = .refused (.unassignedSelect code))

/-- Every encoder, shift_imm, pack and mnemonic call completes in one step, for every integer argument. Formalises R140. -/
def Obligations.EveryCallReturnsAValue : Prop :=
  ∀ (c : Call) (rest : List Call) (o : Option Output), c.Assigned →
    ∃ v : Output, step ⟨c :: rest, o⟩ = .next ⟨rest, some v⟩ ∧
      (match c with
       | .shiftImm _ _ => ∃ x, v = .imm12 x
       | .pack _ _ => ∃ n, v = .packed n
       | _ => ∃ w, v = .word w)

/-- The frame of all 40 mnemonics: the calls presented are unchanged and the output depends on no state. Rests on
10_state.md R10, R15, R16, R18, R19, R28; 47_system.md R138. -/
def Obligations.MnemonicCallsChangeOnlyTheOutput : Prop :=
  ∀ (i : Instr) (s t : State), exec i s = .next t →
    t.calls = s.calls ∧ ∃ w : Word, t.output = some (.word w) ∧
      ∀ u : State, exec i u = .next { u with output := some (.word w) }

/-- Any list of calls returns, call by call, what each would return alone; any interleaving returns the same values. Rests
on 20_memory.md R37; 10_state.md R28, R29; NOTES.md log entry 3 (the model's choice: calls are served in list order,
so the values come in that order). -/
def Obligations.CallsGiveTheWordsTheyWouldGiveAlone : Prop :=
  (∀ (cs : List Call) (o : Option Output), (∀ c ∈ cs, c.Assigned) →
    outputs cs.length ⟨cs, o⟩ = cs.flatMap (fun c => outputs 1 ⟨[c], none⟩) ∧
    (outputs cs.length ⟨cs, o⟩).length = cs.length) ∧
  (∀ (cs ds : List Call) (o o' : Option Output), cs.Perm ds → (∀ c ∈ cs, c.Assigned) →
    (outputs cs.length ⟨cs, o⟩).Perm (outputs ds.length ⟨ds, o'⟩))

/-- A select code serves the format SEL_ENCODING assigns it to; an unassigned code is refused. Rests on 10_state.md R30;
92_eei_decisions.md D2; NOTES.md log entry 7 (the model's choice: the bus of seven field inputs beside the code). -/
def Obligations.SelectCodesChooseTheFormatOrAreRefused : Prop :=
  (∀ (f : Format) (bus : FieldBus) (rest : List Call) (o : Option Output),
    step ⟨.select (Config.selEncoding.code f) bus :: rest, o⟩ =
      .next ⟨rest, some (.word (encodeRequest (bus.request f)))⟩ ∧ (bus.request f).format = f) ∧
    (∀ (code : Nat) (bus : FieldBus) (rest : List Call) (o : Option Output),
      (∀ f, Config.selEncoding.code f ≠ code) →
      step ⟨.select code bus :: rest, o⟩ = .refused (.unassignedSelect code))

/-- Byte k of a word's image is word[8k+7:8k], the opcode's byte first, for a word and for a list of words. Formalises
R33. -/
def Obligations.WordsAreSerialisedLittleEndian : Prop :=
  (∀ w : Word,
    (wordBytes w).length = 4 ∧
    (∀ k < 4, ∃ b : Byte, (wordBytes w)[k]? = some b ∧ (b.toNat : Int) = wordBits w (8 * k + 7) (8 * k)) ∧
    wordByte w 1 ++ wordByte w 0 = w.extractLsb' 0 16 ∧ wordByte w 3 ++ wordByte w 2 = w.extractLsb' 16 16 ∧
    wordOfBytes (wordByte w 0) (wordByte w 1) (wordByte w 2) (wordByte w 3) = w) ∧
    (∀ (ws : List Word) (j k : Nat), k < 4 → (image ws)[4 * j + k]? = ws[j]?.map (fun w => wordByte w k))

/-- Every mnemonic's word is made by the encoder of the format its opcode selects. Formalises R66. -/
def Obligations.OpcodeSelectsTheFormat : Prop :=
  (∀ (i : Instr) (s : State),
    exec i s = .next { s with output := some (.word (encodeRequest (requestOf i))) } ∧
    (requestOf i).input .opcode = i.opcode ∧ opcodeOf (encodeRequest (requestOf i)) = i.opcode ∧
    formatOfOpcode i.opcode = some (requestOf i).format) ∧
    formatOfOpcode 0b0110011 = some .R ∧
    (∀ op ∈ [(0b0010011 : Int), 0b0000011, 0b1100111, 0b0001111, 0b1110011], formatOfOpcode op = some .I) ∧
    formatOfOpcode 0b0100011 = some .S ∧ formatOfOpcode 0b1100011 = some .B ∧
    formatOfOpcode 0b0110111 = some .U ∧ formatOfOpcode 0b0010111 = some .U ∧ formatOfOpcode 0b1101111 = some .J

/-- Every mnemonic, with any operands, completes with exactly the word of its opcode table row. Rests on 30_encoding.md
R45 to R50, R65; 41_r_type.md to 47_system.md; opcode_table.json. -/
def Obligations.BlockReturnsTheTableWord : Prop :=
  ∀ (i : Instr) (s : State),
    exec i s = .next { s with output := some (.word (encode i)) } ∧
    ∃ row ∈ opcodeTable, row.mnemonic = i.mnemonic ∧ encode i &&& row.mask = row.pattern

/-- A word decodes to a row's mnemonic exactly when the row's mask and match say so, and is rejected when no row does.
Rests on INDEX.md (a word w is that instruction when w & mask == match); opcode_table.json; 30_encoding.md R64, R65;
NOTES.md log entry 5 for FENCE. -/
def Obligations.DecoderFollowsTheOpcodeTable : Prop :=
  ∀ w : Word,
    (∀ row ∈ opcodeTable, (∃ i, decodeWord w = .ok i ∧ i.mnemonic = row.mnemonic) ↔ w &&& row.mask = row.pattern) ∧
    ((∃ e, decodeWord w = .error e) ↔ ∀ row ∈ opcodeTable, w &&& row.mask ≠ row.pattern)

/-- Decoding the encoded word of every well-formed instruction gives the instruction back, as a word and as bytes. Rests
on 30_encoding.md R57, R58, R62; 70_reset_and_hazards.md R157; 20_memory.md R33. -/
def Obligations.DecodeInvertsEncode : Prop :=
  ∀ (i : Instr) (rest : List Byte), i.wellFormed = true →
    decodeWord (encode i) = .ok i ∧ decode (encodeBytes i ++ rest) = .ok (i, rest)

/-- A word that decodes is the encoding of what it decodes to, and that instruction is well formed. Rests on
30_encoding.md R57, R65; opcode_table.json; NOTES.md log entry 5 for FENCE. -/
def Obligations.EncodeInvertsDecode : Prop :=
  ∀ (w : Word) (i : Instr), decodeWord w = .ok i →
    i.wellFormed = true ∧
      encode i = match i with
        | .fence _ _ _ => w &&& 0xFFF0707F
        | _ => w

/-- The word the block returns decodes to the instruction asked for with its operands masked; in range, to itself. Rests
on 30_encoding.md R58, R62; 60_exceptions.md R139; 70_reset_and_hazards.md R157. -/
def Obligations.ReturnedWordReadsBackMasked : Prop :=
  ∀ (i : Instr) (s : State), ∃ w : Word,
    exec i s = .next { s with output := some (.word w) } ∧ decodeWord w = .ok i.masked ∧
    (i.wellFormed = true → decodeWord w = .ok i)

/-- The caller's ranges are exactly the operands that masking leaves unchanged. Rests on 00_scope.md R6 (the ranges);
30_encoding.md R58; 70_reset_and_hazards.md R157. -/
def Obligations.WellFormedIffMaskingChangesNothing : Prop :=
  ∀ i : Instr, (i.wellFormed = true ↔ i.masked = i) ∧ i.masked.wellFormed = true

/-- A step serves the next call; a presented table word is served as the instruction the decoder reads from it. Rests on
10_state.md R27, R28; NOTES.md log entry 3 (the model's choice: the head of the call list is served next); NOTES.md
log entry 4 (the model's choice: a table word is presented as its mnemonic's call). -/
def Obligations.StepRunsTheDecodedInstruction : Prop :=
  (∀ (i : Instr) (s : State) (rest : List Call), s.calls = .instr i :: rest →
    step s = exec i { s with calls := rest }) ∧
    (∀ (s : State) (nbits w : Nat) (i : Instr), decodeTableWord nbits w = some i →
      step (s.withFetchWord nbits w) = exec i s) ∧
    (∀ (s : State) (w : Word) (i : Instr), decodeWord w = .ok i → step (s.withFetchWord 32 w.toNat) = exec i s)

/-- A presented word of no table row is served by encode_R with its own fields and comes back unchanged. Rests on
30_encoding.md R67, R68; 47_system.md R137; NOTES.md log entry 4 (the model's choice: such a word is presented as a
raw R request). -/
def Obligations.WordsOfNoRowAreServedRaw : Prop :=
  ∀ (s : State) (w : Word) (e : DecodeReject), decodeWord w = .error e →
    step (s.withFetchWord 32 w.toNat) = .next { s with output := some (.word w) }

/-- Every step keeps the invariant: the calls presented all have a value, and the output value is in its range. Rests on
10_state.md R28, R30; 40_field_packer.md R80; 60_exceptions.md R140; NOTES.md log entries 2 and 3 (the model's choice:
the idle step, and calls served in list order). -/
def Obligations.StepKeepsTheInvariant : Prop :=
  ∀ s t : State, s.Inv → step s = .next t → t.Inv

/-- The state before any call meets the invariant. Rests on 70_reset_and_hazards.md R153; NOTES.md log entry 1. -/
def Obligations.InvariantHoldsAtReset : Prop :=
  State.reset.Inv

/-- From every state that meets the invariant a step answers next, serving one call if there is one. Rests on
60_exceptions.md R140, R142; 70_reset_and_hazards.md R162; NOTES.md log entry 2 (the model's choice: with no call
presented the step answers next and there is no output). -/
def Obligations.InvariantStatesNeverStop : Prop :=
  ∀ s : State, s.Inv → ∃ t : State, step s = .next t ∧ t.calls = s.calls.tail ∧
    (t.output.isSome = true ↔ s.calls ≠ [])

/-- With no call presented there is no output, at reset and after any idle step. Rests on 70_reset_and_hazards.md R153,
R154; 93_implementation_defined.md section 1 entry 9; NOTES.md log entries 1 and 2. -/
def Obligations.NoCallNoOutput : Prop :=
  State.reset.calls = [] ∧ State.reset.output = none ∧
    ∀ s : State, s.calls = [] → step s = .next { s with output := none }

/-- The text of every instruction but FENCE, ECALL and EBREAK is its mnemonic and operands in the rule's order. Rests on
30_encoding.md R71 to R78; NOTES.md log entry 11 (the model's choice: an out-of-range register and a negative upper
immediate print as supplied). -/
def Obligations.AssemblyTextHasTheOperandSyntax : Prop :=
  (∀ a b c : Int,
    (∀ p ∈ [(Instr.add a b c, "add"), (.sub a b c, "sub"), (.sll a b c, "sll"), (.slt a b c, "slt"), (.sltu a b c,
      "sltu"),
      (.xor a b c, "xor"), (.srl a b c, "srl"), (.sra a b c, "sra"), (.or a b c, "or"), (.and a b c, "and")],
      render p.1 = some (p.2 ++ " " ++ "x" ++ toString a ++ ", " ++ "x" ++ toString b ++ ", " ++ "x" ++ toString c)) ∧
    (∀ p ∈ [(Instr.addi a b c, "addi"), (.slti a b c, "slti"), (.sltiu a b c, "sltiu"), (.xori a b c, "xori"),
      (.ori a b c, "ori"),
      (.andi a b c, "andi"), (.slli a b c, "slli"), (.srli a b c, "srli"), (.srai a b c, "srai")],
      render p.1 = some (p.2 ++ " " ++ "x" ++ toString a ++ ", " ++ "x" ++ toString b ++ ", " ++ toString c)) ∧
    (∀ p ∈ [(Instr.lb a b c, "lb"), (.lh a b c, "lh"), (.lw a b c, "lw"), (.lbu a b c, "lbu"), (.lhu a b c, "lhu"),
      (.jalr a b c, "jalr"),
      (.sb a b c, "sb"), (.sh a b c, "sh"), (.sw a b c, "sw")],
      render p.1 = some (p.2 ++ " " ++ "x" ++ toString a ++ ", " ++ toString c ++ "(" ++ "x" ++ toString b ++ ")")) ∧
    (∀ p ∈ [(Instr.beq a b c, "beq"), (.bne a b c, "bne"), (.blt a b c, "blt"), (.bge a b c, "bge"), (.bltu a b c,
      "bltu"),
      (.bgeu a b c, "bgeu")],
      render p.1 = some (p.2 ++ " " ++ "x" ++ toString a ++ ", " ++ "x" ++ toString b ++ ", " ++ toString c)) ∧
    (∀ p ∈ [(Instr.lui a c, "lui"), (.auipc a c, "auipc"), (.jal a c, "jal")],
      render p.1 = some (p.2 ++ " " ++ "x" ++ toString a ++ ", " ++ toString c))) ∧
    render (.addi 5 3 (-17)) = some "addi x5, x3, -17" ∧ render (.jalr 1 2 4) = some "jalr x1, 4(x2)" ∧
    render (.beq 0 1 (-12)) = some "beq x0, x1, -12"

/-- FENCE text names both sets, for every pred and succ, with the letters i, o, r, w of bits 3 to 0; ECALL and EBREAK text
is the mnemonic. Rests on 30_encoding.md R79; 95_test_vectors.md section 4.9; NOTES.md log entry 11 (the model's
choice: no text for another fm, the low four bits of a wider set). -/
def Obligations.SystemTextNamesTheSets : Prop :=
  (let sets : List (Int × String) :=
     [(0, "0"), (1, "w"), (2, "r"), (3, "rw"), (4, "o"), (5, "ow"), (6, "or"), (7, "orw"), (8, "i"),
      (9, "iw"), (10, "ir"), (11, "irw"), (12, "io"), (13, "iow"), (14, "ior"), (15, "iorw")]
   ∀ p ∈ sets, ∀ q ∈ sets, render (.fence 0 p.1 q.1) = some ("fence " ++ p.2 ++ ", " ++ q.2)) ∧
    (∀ pred succ : Int, render (.fence 0 pred succ) = render (.fence 0 (zext 4 pred) (zext 4 succ))) ∧
    (∀ fm pred succ : Int, (render (.fence fm pred succ)).isSome = true ↔ fm = 0) ∧
    render .ecall = some "ecall" ∧ render .ebreak = some "ebreak"

/-- A word of each family, from the spec's vectors and its rules' examples, decodes to the instruction the spec names.
Rests on 95_test_vectors.md sections 1 and 4 (ADD, ADDI, JALR, LUI, JAL, FENCE, EBREAK); 42_i_type.md R108, R112
(examples); 43_s_type.md R117 (example); 44_b_type.md R123 (example); 45_u_type.md R129 (example). -/
def Obligations.ListedWordsDecodeToTheirInstruction : Prop :=
  decodeWord 0x003100B3 = .ok (.add 1 2 3) ∧
    decodeWord 0xFEF18293 = .ok (.addi 5 3 (-17)) ∧
    decodeWord 0x41F35293 = .ok (.srai 5 6 31) ∧
    decodeWord 0x80044383 = .ok (.lbu 7 8 (-2048)) ∧
    decodeWord 0x004100E7 = .ok (.jalr 1 2 4) ∧
    decodeWord 0xFE321F23 = .ok (.sh 3 4 (-2)) ∧
    decodeWord 0x80525063 = .ok (.bge 4 5 (-4096)) ∧
    decodeWord 0xFFFFF537 = .ok (.lui 10 1048575) ∧
    decodeWord 0x12345097 = .ok (.auipc 1 74565) ∧
    decodeWord 0x7FF7F0EF = .ok (.jal 1 524286) ∧
    decodeWord 0x8330000F = .ok (.fence 8 3 3) ∧
    decodeWord 0x00100073 = .ok .ebreak
end

