-- ==== Sys2Proof/Laws/Fields.lean ====
section
/-! SUPPORT. The integer notation (zext, sext, shifting right) as bit vectors. -/

namespace Sys2Proof.Machine

/-- `zext_n(v)` is the value of the low `n` bits of `v`. -/
theorem zext_eq_ofInt (n : Nat) (v : Int) : zext n v = ((BitVec.ofInt n v).toNat : Int) := by
  have h : 0 ≤ v % (2 : Int) ^ n := Int.emod_nonneg _ (by positivity)
  simp [zext, BitVec.toNat_ofInt, Int.toNat_of_nonneg h]

/-- `sext_n(v)` is the signed value of the low `n` bits of `v`. -/
theorem sext_eq_ofInt (n : Nat) (v : Int) (hn : 0 < n) : sext n v = (BitVec.ofInt n v).toInt := by
  obtain ⟨k, rfl⟩ : ∃ k, n = k + 1 := ⟨n - 1, by omega⟩
  simp only [sext, zext_eq_ofInt, BitVec.toInt_eq_toNat_cond, Nat.add_sub_cancel]
  have : (2 : Nat) ^ (k + 1) = 2 * 2 ^ k := by ring
  have hc : ((2 : Int) ^ k) = ((2 ^ k : Nat) : Int) := by push_cast; rfl
  have hd : ((2 : Int) ^ (k + 1)) = ((2 ^ (k + 1) : Nat) : Int) := by push_cast; rfl
  rw [hc, hd]
  split <;> split <;> omega

/-- Sign extension of the value of an `n`-bit vector. -/
theorem sext_toNat (n : Nat) (x : BitVec n) (hn : 0 < n) : sext n (x.toNat : Int) = x.toInt := by
  rw [sext_eq_ofInt n _ hn, BitVec.ofInt_natCast, BitVec.ofNat_toNat, BitVec.setWidth_eq]

/-- Dropping the low `k` bits of an integer first, or of its low bits: the same field. -/
theorem ofInt_shiftRight (w n k : Nat) (v : Int) (h : k + w ≤ n) :
    BitVec.ofInt w (v >>> k) = (BitVec.ofInt n v).extractLsb' k w := by
  apply BitVec.eq_of_toNat_eq
  have hp : (2 : Int) ^ n = 2 ^ k * 2 ^ (n - k) := by rw [← pow_add]; congr 1; omega
  have hk : (0 : Int) < 2 ^ k := by positivity
  have h1 : (v % 2 ^ n) / 2 ^ k = v / 2 ^ k % 2 ^ (n - k) := by
    rw [hp, Int.emod_def, Int.emod_def, Int.mul_assoc, Int.sub_mul_ediv_left _ _ hk.ne', Int.ediv_ediv_of_nonneg hk.le]
  have hd : (2 : Int) ^ w ∣ 2 ^ (n - k) := pow_dvd_pow 2 (by omega)
  have h0 : 0 ≤ v % (2 : Int) ^ n := Int.emod_nonneg _ (by positivity)
  have h2 : 0 ≤ v / 2 ^ k % (2 : Int) ^ w := Int.emod_nonneg _ (by positivity)
  zify
  simp only [BitVec.extractLsb'_toNat, BitVec.toNat_ofInt, Nat.shiftRight_eq_div_pow, Int.shiftRight_eq_div_pow]
  push_cast
  rw [Int.toNat_of_nonneg h0, Int.toNat_of_nonneg h2, h1, Int.emod_emod_of_dvd _ hd]

/-- An appended pair as the OR of its shifted parts. -/
theorem setWidth_append_eq_or {n m : Nat} (x : BitVec n) (y : BitVec m) (k : Nat) :
    (x ++ y).setWidth k = x.setWidth k <<< m ||| y.setWidth k := by
  apply BitVec.eq_of_getLsbD_eq
  intro i hi
  simp only [BitVec.getLsbD_setWidth, BitVec.getLsbD_append, BitVec.getLsbD_or, BitVec.getLsbD_shiftLeft]
  by_cases h1 : i < m
  · simp [h1, hi]
  · simp [h1, hi, BitVec.getLsbD_of_ge y i (by omega), show i - m < k by omega]

/-- Clearing bit 0 of the low `n` bits. -/
theorem sext_sub_zext_one (n : Nat) (v : Int) (hn : 1 < n) :
    sext n v - zext 1 v = sext n ((((BitVec.ofInt n v).extractLsb' 1 (n - 1) ++ 0#1).toNat : Nat) : Int) := by
  obtain ⟨k, rfl⟩ : ∃ k, n = k + 2 := ⟨n - 2, by omega⟩
  have hz : zext (k + 2) v = ((BitVec.ofInt (k + 2) v).toNat : Int) := zext_eq_ofInt _ _
  generalize hx : BitVec.ofInt (k + 2) v = x at hz
  have hlt : x.toNat < 2 ^ (k + 2) := x.isLt
  have h1 : zext 1 v = (x.toNat : Int) % 2 := by
    rw [← hz]; simp only [zext, pow_one]
    rw [Int.emod_emod_of_dvd _ (⟨2 ^ (k + 1), by ring⟩ : (2 : Int) ∣ 2 ^ (k + 2))]
  have hval : ((x.extractLsb' 1 (k + 2 - 1) ++ 0#1).toNat : Int) = (x.toNat : Int) - (x.toNat : Int) % 2 := by
    rw [BitVec.toNat_append]
    simp only [BitVec.extractLsb'_toNat, BitVec.toNat_ofNat, Nat.shiftRight_eq_div_pow, pow_one, Nat.zero_mod,
      Nat.or_zero, Nat.shiftLeft_eq]
    have : (2 : Nat) ^ (k + 2) = 2 * 2 ^ (k + 2 - 1) := by rw [← pow_succ']; congr 1
    rw [Nat.mod_eq_of_lt (by omega)]
    push_cast; omega
  have hpow : (2 : Int) ^ (k + 2) = 4 * 2 ^ k := by ring
  have hpow' : (2 : Int) ^ (k + 1) = 2 * 2 ^ k := by ring
  have hltZ : (x.toNat : Int) < 2 ^ (k + 2) := by exact_mod_cast hlt
  have hz2 : zext (k + 2) ((x.toNat : Int) - (x.toNat : Int) % 2) = (x.toNat : Int) - (x.toNat : Int) % 2 :=
    Int.emod_eq_of_lt (by omega) (by omega)
  rw [hval]
  simp only [sext, hz, hz2, h1, show k + 2 - 1 = k + 1 from rfl, hpow, hpow']
  split <;> split <;> omega

end Sys2Proof.Machine
end

