-- ==== Sys2Proof/Laws/State.lean ====
section
/-! SUPPORT. One lemma per field per update of State. -/

namespace Sys2Proof.Machine

@[simp] theorem State.setOutput_calls (s : State) (o : Option Output) : (s.setOutput o).calls = s.calls := rfl
@[simp] theorem State.setOutput_output (s : State) (o : Option Output) : (s.setOutput o).output = o := rfl
@[simp] theorem State.setCalls_calls (s : State) (cs : List Call) : (s.setCalls cs).calls = cs := rfl
@[simp] theorem State.setCalls_output (s : State) (cs : List Call) : (s.setCalls cs).output = s.output := rfl
@[simp] theorem State.setCalls_setCalls (s : State) (cs ds : List Call) : (s.setCalls cs).setCalls ds = s.setCalls ds := rfl
@[simp] theorem State.setCalls_self (s : State) : s.setCalls s.calls = s := rfl
@[simp] theorem State.setOutput_setOutput (s : State) (o p : Option Output) :
    (s.setOutput o).setOutput p = s.setOutput p := rfl
@[simp] theorem State.reset_calls : State.reset.calls = [] := rfl
@[simp] theorem State.reset_output : State.reset.output = none := rfl

end Sys2Proof.Machine
end

