-- ==== Sys2Proof/Laws/Words.lean ====
section
/-! SUPPORT. The table words of R45 to R50 as the OR of their shifted fields, and the fields read back. -/

namespace Sys2Proof
open Machine

theorem wordR_eq_or (f7 : BitVec 7) (rs2 rs1 : Int) (f3 : BitVec 3) (rd : Int) (op : BitVec 7) :
    wordR f7 rs2 rs1 f3 rd op = f7.setWidth 32 <<< 25 ||| (BitVec.ofInt 5 rs2).setWidth 32 <<< 20 |||
      (BitVec.ofInt 5 rs1).setWidth 32 <<< 15 ||| f3.setWidth 32 <<< 12 ||| (BitVec.ofInt 5 rd).setWidth 32 <<< 7 |||
      op.setWidth 32 := by
  rw [← BitVec.setWidth_eq (wordR f7 rs2 rs1 f3 rd op)]
  unfold wordR
  iterate 5 rw [setWidth_append_eq_or]
  simp only [BitVec.shiftLeft_or_distrib, ← BitVec.shiftLeft_add, Nat.reduceAdd]

theorem wordI_eq_or (imm : BitVec 12) (rs1 : Int) (f3 : BitVec 3) (rd : Int) (op : BitVec 7) :
    wordI imm rs1 f3 rd op = imm.setWidth 32 <<< 20 ||| (BitVec.ofInt 5 rs1).setWidth 32 <<< 15 |||
      f3.setWidth 32 <<< 12 ||| (BitVec.ofInt 5 rd).setWidth 32 <<< 7 ||| op.setWidth 32 := by
  rw [← BitVec.setWidth_eq (wordI imm rs1 f3 rd op)]
  unfold wordI
  iterate 4 rw [setWidth_append_eq_or]
  simp only [BitVec.shiftLeft_or_distrib, ← BitVec.shiftLeft_add, Nat.reduceAdd]

theorem wordS_eq_or (imm : BitVec 12) (rs2 rs1 : Int) (f3 : BitVec 3) (op : BitVec 7) :
    wordS imm rs2 rs1 f3 op = (imm.extractLsb' 5 7).setWidth 32 <<< 25 ||| (BitVec.ofInt 5 rs2).setWidth 32 <<< 20 |||
      (BitVec.ofInt 5 rs1).setWidth 32 <<< 15 ||| f3.setWidth 32 <<< 12 ||| (imm.extractLsb' 0 5).setWidth 32 <<< 7 |||
      op.setWidth 32 := by
  rw [← BitVec.setWidth_eq (wordS imm rs2 rs1 f3 op)]
  unfold wordS
  iterate 5 rw [setWidth_append_eq_or]
  simp only [BitVec.shiftLeft_or_distrib, ← BitVec.shiftLeft_add, Nat.reduceAdd]

theorem wordB_eq_or (imm : BitVec 13) (rs2 rs1 : Int) (f3 : BitVec 3) (op : BitVec 7) :
    wordB imm rs2 rs1 f3 op = (imm.extractLsb' 12 1).setWidth 32 <<< 31 ||| (imm.extractLsb' 5 6).setWidth 32 <<< 25 |||
      (BitVec.ofInt 5 rs2).setWidth 32 <<< 20 ||| (BitVec.ofInt 5 rs1).setWidth 32 <<< 15 ||| f3.setWidth 32 <<< 12 |||
      (imm.extractLsb' 1 4).setWidth 32 <<< 8 ||| (imm.extractLsb' 11 1).setWidth 32 <<< 7 ||| op.setWidth 32 := by
  rw [← BitVec.setWidth_eq (wordB imm rs2 rs1 f3 op)]
  unfold wordB
  iterate 7 rw [setWidth_append_eq_or]
  simp only [BitVec.shiftLeft_or_distrib, ← BitVec.shiftLeft_add, Nat.reduceAdd]

theorem wordU_eq_or (imm : BitVec 20) (rd : Int) (op : BitVec 7) :
    wordU imm rd op = imm.setWidth 32 <<< 12 ||| (BitVec.ofInt 5 rd).setWidth 32 <<< 7 ||| op.setWidth 32 := by
  rw [← BitVec.setWidth_eq (wordU imm rd op)]
  unfold wordU
  iterate 2 rw [setWidth_append_eq_or]
  simp only [BitVec.shiftLeft_or_distrib, ← BitVec.shiftLeft_add, Nat.reduceAdd]

theorem wordJ_eq_or (imm : BitVec 21) (rd : Int) (op : BitVec 7) :
    wordJ imm rd op = (imm.extractLsb' 20 1).setWidth 32 <<< 31 ||| (imm.extractLsb' 1 10).setWidth 32 <<< 21 |||
      (imm.extractLsb' 11 1).setWidth 32 <<< 20 ||| (imm.extractLsb' 12 8).setWidth 32 <<< 12 |||
      (BitVec.ofInt 5 rd).setWidth 32 <<< 7 ||| op.setWidth 32 := by
  rw [← BitVec.setWidth_eq (wordJ imm rd op)]
  unfold wordJ
  iterate 5 rw [setWidth_append_eq_or]
  simp only [BitVec.shiftLeft_or_distrib, ← BitVec.shiftLeft_add, Nat.reduceAdd]

/-- The shift immediate's two parts stand where R has funct7 and rs2 (R56). -/
theorem wordI_shift_eq_wordR (f7 : BitVec 7) (shamt rs1 : Int) (f3 : BitVec 3) (rd : Int) (op : BitVec 7) :
    wordI (f7 ++ BitVec.ofInt 5 shamt) rs1 f3 rd op = wordR f7 shamt rs1 f3 rd op := by
  rw [wordI_eq_or, wordR_eq_or, setWidth_append_eq_or]
  simp only [BitVec.shiftLeft_or_distrib, ← BitVec.shiftLeft_add, Nat.reduceAdd]

/-! The fields of a table word, read back by position. -/

theorem wordR_fields (f7 : BitVec 7) (rs2 rs1 : Int) (f3 : BitVec 3) (rd : Int) (op : BitVec 7) :
    let w := wordR f7 rs2 rs1 f3 rd op
    w.extractLsb' 25 7 = f7 ∧ w.extractLsb' 20 5 = BitVec.ofInt 5 rs2 ∧ w.extractLsb' 15 5 = BitVec.ofInt 5 rs1 ∧
      w.extractLsb' 12 3 = f3 ∧ w.extractLsb' 7 5 = BitVec.ofInt 5 rd ∧ w.extractLsb' 0 7 = op := by
  intro w
  refine ⟨?_, ?_, ?_, ?_, ?_, ?_⟩ <;> simp only [w, wordR_eq_or] <;> ext i hi <;> interval_cases i <;> simp

theorem wordI_fields (imm : BitVec 12) (rs1 : Int) (f3 : BitVec 3) (rd : Int) (op : BitVec 7) :
    let w := wordI imm rs1 f3 rd op
    w.extractLsb' 20 12 = imm ∧ w.extractLsb' 15 5 = BitVec.ofInt 5 rs1 ∧
      w.extractLsb' 12 3 = f3 ∧ w.extractLsb' 7 5 = BitVec.ofInt 5 rd ∧ w.extractLsb' 0 7 = op := by
  intro w
  refine ⟨?_, ?_, ?_, ?_, ?_⟩ <;> simp only [w, wordI_eq_or] <;> ext i hi <;> interval_cases i <;> simp

theorem wordS_fields (imm : BitVec 12) (rs2 rs1 : Int) (f3 : BitVec 3) (op : BitVec 7) :
    let w := wordS imm rs2 rs1 f3 op
    w.extractLsb' 25 7 = imm.extractLsb' 5 7 ∧ w.extractLsb' 20 5 = BitVec.ofInt 5 rs2 ∧
      w.extractLsb' 15 5 = BitVec.ofInt 5 rs1 ∧ w.extractLsb' 12 3 = f3 ∧ w.extractLsb' 7 5 = imm.extractLsb' 0 5 ∧
      w.extractLsb' 0 7 = op := by
  intro w
  refine ⟨?_, ?_, ?_, ?_, ?_, ?_⟩ <;> simp only [w, wordS_eq_or] <;> ext i hi <;> interval_cases i <;> simp

theorem wordB_fields (imm : BitVec 13) (rs2 rs1 : Int) (f3 : BitVec 3) (op : BitVec 7) :
    let w := wordB imm rs2 rs1 f3 op
    w.extractLsb' 31 1 = imm.extractLsb' 12 1 ∧ w.extractLsb' 25 6 = imm.extractLsb' 5 6 ∧
      w.extractLsb' 20 5 = BitVec.ofInt 5 rs2 ∧ w.extractLsb' 15 5 = BitVec.ofInt 5 rs1 ∧
      w.extractLsb' 12 3 = f3 ∧ w.extractLsb' 8 4 = imm.extractLsb' 1 4 ∧ w.extractLsb' 7 1 = imm.extractLsb' 11 1 ∧
      w.extractLsb' 0 7 = op := by
  intro w
  refine ⟨?_, ?_, ?_, ?_, ?_, ?_, ?_, ?_⟩ <;> simp only [w, wordB_eq_or] <;> ext i hi <;> interval_cases i <;> simp

theorem wordU_fields (imm : BitVec 20) (rd : Int) (op : BitVec 7) :
    let w := wordU imm rd op
    w.extractLsb' 12 20 = imm ∧ w.extractLsb' 7 5 = BitVec.ofInt 5 rd ∧ w.extractLsb' 0 7 = op := by
  intro w
  refine ⟨?_, ?_, ?_⟩ <;> simp only [w, wordU_eq_or] <;> ext i hi <;> interval_cases i <;> simp

theorem wordJ_fields (imm : BitVec 21) (rd : Int) (op : BitVec 7) :
    let w := wordJ imm rd op
    w.extractLsb' 31 1 = imm.extractLsb' 20 1 ∧ w.extractLsb' 21 10 = imm.extractLsb' 1 10 ∧
      w.extractLsb' 20 1 = imm.extractLsb' 11 1 ∧ w.extractLsb' 12 8 = imm.extractLsb' 12 8 ∧
      w.extractLsb' 7 5 = BitVec.ofInt 5 rd ∧ w.extractLsb' 0 7 = op := by
  intro w
  refine ⟨?_, ?_, ?_, ?_, ?_, ?_⟩ <;> simp only [w, wordJ_eq_or] <;> ext i hi <;> interval_cases i <;> simp

/-! What the masks of spec/opcode_table.json keep of a word. -/

theorem and_maskFunct7 (w : Word) : w &&& 0xFE00707F#32 =
    (w.extractLsb' 25 7).setWidth 32 <<< 25 ||| (w.extractLsb' 12 3).setWidth 32 <<< 12 |||
      (w.extractLsb' 0 7).setWidth 32 := by
  ext i hi; interval_cases i <;> simp

theorem and_maskFunct3 (w : Word) : w &&& 0x0000707F#32 =
    (w.extractLsb' 12 3).setWidth 32 <<< 12 ||| (w.extractLsb' 0 7).setWidth 32 := by
  ext i hi; interval_cases i <;> simp

theorem and_maskOpcode (w : Word) : w &&& 0x0000007F#32 = (w.extractLsb' 0 7).setWidth 32 := by
  ext i hi; interval_cases i <;> simp

/-! What a row's mask keeps of a table word: the fixed bits of the row. -/

theorem wordR_and_funct7 (f7 : BitVec 7) (rs2 rs1 : Int) (f3 : BitVec 3) (rd : Int) (op : BitVec 7) :
    wordR f7 rs2 rs1 f3 rd op &&& 0xFE00707F#32 = f7.setWidth 32 <<< 25 ||| f3.setWidth 32 <<< 12 ||| op.setWidth 32 := by
  simp [and_maskFunct7, wordR_fields]

theorem wordI_and_funct3 (imm : BitVec 12) (rs1 : Int) (f3 : BitVec 3) (rd : Int) (op : BitVec 7) :
    wordI imm rs1 f3 rd op &&& 0x0000707F#32 = f3.setWidth 32 <<< 12 ||| op.setWidth 32 := by
  simp [and_maskFunct3, wordI_fields]

theorem wordS_and_funct3 (imm : BitVec 12) (rs2 rs1 : Int) (f3 : BitVec 3) (op : BitVec 7) :
    wordS imm rs2 rs1 f3 op &&& 0x0000707F#32 = f3.setWidth 32 <<< 12 ||| op.setWidth 32 := by
  simp [and_maskFunct3, wordS_fields]

theorem wordB_and_funct3 (imm : BitVec 13) (rs2 rs1 : Int) (f3 : BitVec 3) (op : BitVec 7) :
    wordB imm rs2 rs1 f3 op &&& 0x0000707F#32 = f3.setWidth 32 <<< 12 ||| op.setWidth 32 := by
  simp [and_maskFunct3, wordB_fields]

theorem wordU_and_opcode (imm : BitVec 20) (rd : Int) (op : BitVec 7) :
    wordU imm rd op &&& 0x0000007F#32 = op.setWidth 32 := by
  simp [and_maskOpcode, wordU_fields]

theorem wordJ_and_opcode (imm : BitVec 21) (rd : Int) (op : BitVec 7) :
    wordJ imm rd op &&& 0x0000007F#32 = op.setWidth 32 := by
  simp [and_maskOpcode, wordJ_fields]

theorem wordI_shift_and_funct7 (f7 : BitVec 7) (shamt rs1 : Int) (f3 : BitVec 3) (rd : Int) (op : BitVec 7) :
    wordI (f7 ++ BitVec.ofInt 5 shamt) rs1 f3 rd op &&& 0xFE00707F#32 =
      f7.setWidth 32 <<< 25 ||| f3.setWidth 32 <<< 12 ||| op.setWidth 32 := by
  rw [wordI_shift_eq_wordR, wordR_and_funct7]

/-- Three fields at the positions of funct7, funct3 and opcode are read back from their OR. -/
theorem fields_of_or (a : BitVec 7) (b : BitVec 3) (c : BitVec 7) :
    let w : Word := a.setWidth 32 <<< 25 ||| b.setWidth 32 <<< 12 ||| c.setWidth 32
    w.extractLsb' 25 7 = a ∧ w.extractLsb' 12 3 = b ∧ w.extractLsb' 0 7 = c := by
  intro w
  refine ⟨?_, ?_, ?_⟩ <;> simp only [w] <;> ext i hi <;> interval_cases i <;> simp

end Sys2Proof
end

