-- ==== Sys2Proof/Laws/Ops.lean ====
section
/-! SUPPORT. What the shared operations do, once each: the packer as a shifted field, the six encoders as the words of
R45 to R50, and the two ways a call returns. -/

namespace Sys2Proof.Machine

/-- The packer's integer: the low bits of the value, shifted. -/
theorem pack_eq (v : Int) (w o : Nat) : pack v w o = (BitVec.ofInt w v).toNat <<< o := by
  rw [pack, zext_eq_ofInt, Int.toNat_natCast]

theorem toWord_or (a b : Nat) : toWord (a ||| b) = toWord a ||| toWord b := BitVec.ofNat_or

theorem toWord_pack (v : Int) (w o : Nat) : toWord (pack v w o) = (BitVec.ofInt w v).setWidth 32 <<< o := by
  rw [pack_eq]
  apply BitVec.eq_of_toNat_eq
  simp [toWord, Nat.shiftLeft_eq]

/-- `place` moves bits `[hi:lo]` of the value's low `n` bits. -/
theorem toWord_place (n : Nat) (v : Int) (hi lo dest : Nat) (h : lo + (hi - lo + 1) ≤ n) :
    toWord (place v hi lo dest) = ((BitVec.ofInt n v).extractLsb' lo (hi - lo + 1)).setWidth 32 <<< dest := by
  rw [place, toWord_pack, ofInt_shiftRight _ n _ _ h]

theorem encodeR_eq_wordR (f7 rs2 rs1 f3 rd op : Int) :
    encodeR f7 rs2 rs1 f3 rd op = wordR (BitVec.ofInt 7 f7) rs2 rs1 (BitVec.ofInt 3 f3) rd (BitVec.ofInt 7 op) := by
  simp only [encodeR, toWord_or, toWord_pack, wordR_eq_or, BitVec.shiftLeft_zero]

theorem encodeI_eq_wordI (imm rs1 f3 rd op : Int) :
    encodeI imm rs1 f3 rd op = wordI (BitVec.ofInt 12 imm) rs1 (BitVec.ofInt 3 f3) rd (BitVec.ofInt 7 op) := by
  simp only [encodeI, toWord_or, toWord_pack, wordI_eq_or, BitVec.shiftLeft_zero]

theorem encodeS_eq_wordS (imm rs2 rs1 f3 op : Int) :
    encodeS imm rs2 rs1 f3 op = wordS (BitVec.ofInt 12 imm) rs2 rs1 (BitVec.ofInt 3 f3) (BitVec.ofInt 7 op) := by
  simp only [encodeS, toWord_or, toWord_pack, toWord_place 12 imm 11 5 25 (by decide),
    toWord_place 12 imm 4 0 7 (by decide), wordS_eq_or,
    BitVec.shiftLeft_zero, Nat.reduceAdd, Nat.reduceSub]

theorem encodeB_eq_wordB (imm rs2 rs1 f3 op : Int) :
    encodeB imm rs2 rs1 f3 op = wordB (BitVec.ofInt 13 imm) rs2 rs1 (BitVec.ofInt 3 f3) (BitVec.ofInt 7 op) := by
  simp only [encodeB, toWord_or, toWord_pack, toWord_place 13 imm 12 12 31 (by decide),
    toWord_place 13 imm 10 5 25 (by decide), toWord_place 13 imm 4 1 8 (by decide),
    toWord_place 13 imm 11 11 7 (by decide), wordB_eq_or,
    BitVec.shiftLeft_zero, Nat.reduceAdd, Nat.reduceSub]

theorem encodeU_eq_wordU (imm rd op : Int) :
    encodeU imm rd op = wordU (BitVec.ofInt 20 imm) rd (BitVec.ofInt 7 op) := by
  simp only [encodeU, toWord_or, toWord_pack, wordU_eq_or, BitVec.shiftLeft_zero]

theorem encodeJ_eq_wordJ (imm rd op : Int) :
    encodeJ imm rd op = wordJ (BitVec.ofInt 21 imm) rd (BitVec.ofInt 7 op) := by
  simp only [encodeJ, toWord_or, toWord_pack, toWord_place 21 imm 20 20 31 (by decide),
    toWord_place 21 imm 10 1 21 (by decide), toWord_place 21 imm 11 11 20 (by decide),
    toWord_place 21 imm 19 12 12 (by decide), wordJ_eq_or,
    BitVec.shiftLeft_zero, Nat.reduceAdd, Nat.reduceSub]

/-- A call that returns answers next, puts its value at the output and leaves the calls alone. -/
theorem returnOutput_next {o : Output} {s t : State} (h : returnOutput o s = .next t) : t = s.setOutput (some o) := by
  simpa [returnOutput] using h.symm

theorem returnWord_next {w : Word} {s t : State} (h : returnWord w s = .next t) :
    t = s.setOutput (some (.word w)) := returnOutput_next h

end Sys2Proof.Machine
end

