-- ==== Sys2Proof/Laws/PerInstr.lean ====
section
/-! SUPPORT. Laws made per instruction: one lemma per constructor of Instr. -/

/-- The encoder's word of an instruction is a word of the instruction's row of the opcode table (INDEX.md: "`w & mask ==
match`"), for every operand value. -/
def Sys2Proof.Laws.TableRow.Statement (i : Sys2Proof.Instr) : Prop :=
  ∃ row ∈ Sys2Proof.opcodeTable, row.mnemonic = i.mnemonic ∧ Sys2Proof.encode i &&& row.mask = row.pattern

namespace Sys2Proof.Laws.TableRow
open Sys2Proof

theorem add (rd rs1 rs2 : Int) : Statement (.add rd rs1 rs2) := by
  refine ⟨⟨"ADD", .R, 0xFE00707F, 0x00000033⟩, List.mem_of_getElem? (i := 0) rfl, rfl, ?_⟩
  exact (wordR_and_funct7 _ _ _ _ _ _).trans rfl

theorem sub (rd rs1 rs2 : Int) : Statement (.sub rd rs1 rs2) := by
  refine ⟨⟨"SUB", .R, 0xFE00707F, 0x40000033⟩, List.mem_of_getElem? (i := 1) rfl, rfl, ?_⟩
  exact (wordR_and_funct7 _ _ _ _ _ _).trans rfl

theorem sll (rd rs1 rs2 : Int) : Statement (.sll rd rs1 rs2) := by
  refine ⟨⟨"SLL", .R, 0xFE00707F, 0x00001033⟩, List.mem_of_getElem? (i := 2) rfl, rfl, ?_⟩
  exact (wordR_and_funct7 _ _ _ _ _ _).trans rfl

theorem slt (rd rs1 rs2 : Int) : Statement (.slt rd rs1 rs2) := by
  refine ⟨⟨"SLT", .R, 0xFE00707F, 0x00002033⟩, List.mem_of_getElem? (i := 3) rfl, rfl, ?_⟩
  exact (wordR_and_funct7 _ _ _ _ _ _).trans rfl

theorem sltu (rd rs1 rs2 : Int) : Statement (.sltu rd rs1 rs2) := by
  refine ⟨⟨"SLTU", .R, 0xFE00707F, 0x00003033⟩, List.mem_of_getElem? (i := 4) rfl, rfl, ?_⟩
  exact (wordR_and_funct7 _ _ _ _ _ _).trans rfl

theorem xor (rd rs1 rs2 : Int) : Statement (.xor rd rs1 rs2) := by
  refine ⟨⟨"XOR", .R, 0xFE00707F, 0x00004033⟩, List.mem_of_getElem? (i := 5) rfl, rfl, ?_⟩
  exact (wordR_and_funct7 _ _ _ _ _ _).trans rfl

theorem srl (rd rs1 rs2 : Int) : Statement (.srl rd rs1 rs2) := by
  refine ⟨⟨"SRL", .R, 0xFE00707F, 0x00005033⟩, List.mem_of_getElem? (i := 6) rfl, rfl, ?_⟩
  exact (wordR_and_funct7 _ _ _ _ _ _).trans rfl

theorem sra (rd rs1 rs2 : Int) : Statement (.sra rd rs1 rs2) := by
  refine ⟨⟨"SRA", .R, 0xFE00707F, 0x40005033⟩, List.mem_of_getElem? (i := 7) rfl, rfl, ?_⟩
  exact (wordR_and_funct7 _ _ _ _ _ _).trans rfl

theorem or (rd rs1 rs2 : Int) : Statement (.or rd rs1 rs2) := by
  refine ⟨⟨"OR", .R, 0xFE00707F, 0x00006033⟩, List.mem_of_getElem? (i := 8) rfl, rfl, ?_⟩
  exact (wordR_and_funct7 _ _ _ _ _ _).trans rfl

theorem and (rd rs1 rs2 : Int) : Statement (.and rd rs1 rs2) := by
  refine ⟨⟨"AND", .R, 0xFE00707F, 0x00007033⟩, List.mem_of_getElem? (i := 9) rfl, rfl, ?_⟩
  exact (wordR_and_funct7 _ _ _ _ _ _).trans rfl

theorem addi (rd rs1 imm : Int) : Statement (.addi rd rs1 imm) := by
  refine ⟨⟨"ADDI", .I, 0x0000707F, 0x00000013⟩, List.mem_of_getElem? (i := 10) rfl, rfl, ?_⟩
  exact (wordI_and_funct3 _ _ _ _ _).trans rfl

theorem slti (rd rs1 imm : Int) : Statement (.slti rd rs1 imm) := by
  refine ⟨⟨"SLTI", .I, 0x0000707F, 0x00002013⟩, List.mem_of_getElem? (i := 11) rfl, rfl, ?_⟩
  exact (wordI_and_funct3 _ _ _ _ _).trans rfl

theorem sltiu (rd rs1 imm : Int) : Statement (.sltiu rd rs1 imm) := by
  refine ⟨⟨"SLTIU", .I, 0x0000707F, 0x00003013⟩, List.mem_of_getElem? (i := 12) rfl, rfl, ?_⟩
  exact (wordI_and_funct3 _ _ _ _ _).trans rfl

theorem xori (rd rs1 imm : Int) : Statement (.xori rd rs1 imm) := by
  refine ⟨⟨"XORI", .I, 0x0000707F, 0x00004013⟩, List.mem_of_getElem? (i := 13) rfl, rfl, ?_⟩
  exact (wordI_and_funct3 _ _ _ _ _).trans rfl

theorem ori (rd rs1 imm : Int) : Statement (.ori rd rs1 imm) := by
  refine ⟨⟨"ORI", .I, 0x0000707F, 0x00006013⟩, List.mem_of_getElem? (i := 14) rfl, rfl, ?_⟩
  exact (wordI_and_funct3 _ _ _ _ _).trans rfl

theorem andi (rd rs1 imm : Int) : Statement (.andi rd rs1 imm) := by
  refine ⟨⟨"ANDI", .I, 0x0000707F, 0x00007013⟩, List.mem_of_getElem? (i := 15) rfl, rfl, ?_⟩
  exact (wordI_and_funct3 _ _ _ _ _).trans rfl

theorem slli (rd rs1 shamt : Int) : Statement (.slli rd rs1 shamt) := by
  refine ⟨⟨"SLLI", .I, 0xFE00707F, 0x00001013⟩, List.mem_of_getElem? (i := 16) rfl, rfl, ?_⟩
  exact (wordI_shift_and_funct7 _ _ _ _ _ _).trans rfl

theorem srli (rd rs1 shamt : Int) : Statement (.srli rd rs1 shamt) := by
  refine ⟨⟨"SRLI", .I, 0xFE00707F, 0x00005013⟩, List.mem_of_getElem? (i := 17) rfl, rfl, ?_⟩
  exact (wordI_shift_and_funct7 _ _ _ _ _ _).trans rfl

theorem srai (rd rs1 shamt : Int) : Statement (.srai rd rs1 shamt) := by
  refine ⟨⟨"SRAI", .I, 0xFE00707F, 0x40005013⟩, List.mem_of_getElem? (i := 18) rfl, rfl, ?_⟩
  exact (wordI_shift_and_funct7 _ _ _ _ _ _).trans rfl

theorem lb (rd rs1 imm : Int) : Statement (.lb rd rs1 imm) := by
  refine ⟨⟨"LB", .I, 0x0000707F, 0x00000003⟩, List.mem_of_getElem? (i := 19) rfl, rfl, ?_⟩
  exact (wordI_and_funct3 _ _ _ _ _).trans rfl

theorem lh (rd rs1 imm : Int) : Statement (.lh rd rs1 imm) := by
  refine ⟨⟨"LH", .I, 0x0000707F, 0x00001003⟩, List.mem_of_getElem? (i := 20) rfl, rfl, ?_⟩
  exact (wordI_and_funct3 _ _ _ _ _).trans rfl

theorem lw (rd rs1 imm : Int) : Statement (.lw rd rs1 imm) := by
  refine ⟨⟨"LW", .I, 0x0000707F, 0x00002003⟩, List.mem_of_getElem? (i := 21) rfl, rfl, ?_⟩
  exact (wordI_and_funct3 _ _ _ _ _).trans rfl

theorem lbu (rd rs1 imm : Int) : Statement (.lbu rd rs1 imm) := by
  refine ⟨⟨"LBU", .I, 0x0000707F, 0x00004003⟩, List.mem_of_getElem? (i := 22) rfl, rfl, ?_⟩
  exact (wordI_and_funct3 _ _ _ _ _).trans rfl

theorem lhu (rd rs1 imm : Int) : Statement (.lhu rd rs1 imm) := by
  refine ⟨⟨"LHU", .I, 0x0000707F, 0x00005003⟩, List.mem_of_getElem? (i := 23) rfl, rfl, ?_⟩
  exact (wordI_and_funct3 _ _ _ _ _).trans rfl

theorem jalr (rd rs1 imm : Int) : Statement (.jalr rd rs1 imm) := by
  refine ⟨⟨"JALR", .I, 0x0000707F, 0x00000067⟩, List.mem_of_getElem? (i := 24) rfl, rfl, ?_⟩
  exact (wordI_and_funct3 _ _ _ _ _).trans rfl

theorem sb (rs2 rs1 imm : Int) : Statement (.sb rs2 rs1 imm) := by
  refine ⟨⟨"SB", .S, 0x0000707F, 0x00000023⟩, List.mem_of_getElem? (i := 25) rfl, rfl, ?_⟩
  exact (wordS_and_funct3 _ _ _ _ _).trans rfl

theorem sh (rs2 rs1 imm : Int) : Statement (.sh rs2 rs1 imm) := by
  refine ⟨⟨"SH", .S, 0x0000707F, 0x00001023⟩, List.mem_of_getElem? (i := 26) rfl, rfl, ?_⟩
  exact (wordS_and_funct3 _ _ _ _ _).trans rfl

theorem sw (rs2 rs1 imm : Int) : Statement (.sw rs2 rs1 imm) := by
  refine ⟨⟨"SW", .S, 0x0000707F, 0x00002023⟩, List.mem_of_getElem? (i := 27) rfl, rfl, ?_⟩
  exact (wordS_and_funct3 _ _ _ _ _).trans rfl

theorem beq (rs1 rs2 imm : Int) : Statement (.beq rs1 rs2 imm) := by
  refine ⟨⟨"BEQ", .B, 0x0000707F, 0x00000063⟩, List.mem_of_getElem? (i := 28) rfl, rfl, ?_⟩
  exact (wordB_and_funct3 _ _ _ _ _).trans rfl

theorem bne (rs1 rs2 imm : Int) : Statement (.bne rs1 rs2 imm) := by
  refine ⟨⟨"BNE", .B, 0x0000707F, 0x00001063⟩, List.mem_of_getElem? (i := 29) rfl, rfl, ?_⟩
  exact (wordB_and_funct3 _ _ _ _ _).trans rfl

theorem blt (rs1 rs2 imm : Int) : Statement (.blt rs1 rs2 imm) := by
  refine ⟨⟨"BLT", .B, 0x0000707F, 0x00004063⟩, List.mem_of_getElem? (i := 30) rfl, rfl, ?_⟩
  exact (wordB_and_funct3 _ _ _ _ _).trans rfl

theorem bge (rs1 rs2 imm : Int) : Statement (.bge rs1 rs2 imm) := by
  refine ⟨⟨"BGE", .B, 0x0000707F, 0x00005063⟩, List.mem_of_getElem? (i := 31) rfl, rfl, ?_⟩
  exact (wordB_and_funct3 _ _ _ _ _).trans rfl

theorem bltu (rs1 rs2 imm : Int) : Statement (.bltu rs1 rs2 imm) := by
  refine ⟨⟨"BLTU", .B, 0x0000707F, 0x00006063⟩, List.mem_of_getElem? (i := 32) rfl, rfl, ?_⟩
  exact (wordB_and_funct3 _ _ _ _ _).trans rfl

theorem bgeu (rs1 rs2 imm : Int) : Statement (.bgeu rs1 rs2 imm) := by
  refine ⟨⟨"BGEU", .B, 0x0000707F, 0x00007063⟩, List.mem_of_getElem? (i := 33) rfl, rfl, ?_⟩
  exact (wordB_and_funct3 _ _ _ _ _).trans rfl

theorem lui (rd imm : Int) : Statement (.lui rd imm) := by
  refine ⟨⟨"LUI", .U, 0x0000007F, 0x00000037⟩, List.mem_of_getElem? (i := 34) rfl, rfl, ?_⟩
  exact (wordU_and_opcode _ _ _).trans rfl

theorem auipc (rd imm : Int) : Statement (.auipc rd imm) := by
  refine ⟨⟨"AUIPC", .U, 0x0000007F, 0x00000017⟩, List.mem_of_getElem? (i := 35) rfl, rfl, ?_⟩
  exact (wordU_and_opcode _ _ _).trans rfl

theorem jal (rd imm : Int) : Statement (.jal rd imm) := by
  refine ⟨⟨"JAL", .J, 0x0000007F, 0x0000006F⟩, List.mem_of_getElem? (i := 36) rfl, rfl, ?_⟩
  exact (wordJ_and_opcode _ _ _).trans rfl

theorem fence (fm pred succ : Int) : Statement (.fence fm pred succ) := by
  refine ⟨⟨"FENCE", .I, 0x0000707F, 0x0000000F⟩, List.mem_of_getElem? (i := 37) rfl, rfl, ?_⟩
  exact (wordI_and_funct3 _ _ _ _ _).trans rfl

theorem ecall : Statement .ecall := by
  refine ⟨⟨"ECALL", .I, 0xFFFFFFFF, 0x00000073⟩, List.mem_of_getElem? (i := 38) rfl, rfl, ?_⟩
  decide

theorem ebreak : Statement .ebreak := by
  refine ⟨⟨"EBREAK", .I, 0xFFFFFFFF, 0x00100073⟩, List.mem_of_getElem? (i := 39) rfl, rfl, ?_⟩
  decide

end Sys2Proof.Laws.TableRow
end

