-- ==== Sys2Proof/Laws/Step.lean ====
section
/-! SUPPORT. What a step can do, said once: every mnemonic returns a word that the state does not enter, a call returns a
value or is the refused select call, and a step serves the next call or finds none. -/

namespace Sys2Proof.Machine

/-- Every mnemonic's call returns the word of the request its rule makes. -/
theorem exec_eq_returnWord (i : Instr) (s : State) : exec i s = returnWord (encodeRequest (requestOf i)) s := by
  cases i <;> rfl

/-- Every mnemonic's call returns a word, the same from every state. -/
theorem exec_returns (i : Instr) : ∃ w, ∀ s, exec i s = returnWord w s := ⟨_, exec_eq_returnWord i⟩

/-- A call returns a value that the state does not enter, or it is a select call with an unassigned code. -/
theorem perform_cases (c : Call) :
    (∃ o, ∀ s, perform c s = returnOutput o s) ∨
    (∃ code bus, c = .select code bus ∧ formatOfCode code = none ∧
      ∀ s, perform c s = .refused (.unassignedSelect code)) := by
  cases c with
  | instr i => obtain ⟨w, h⟩ := exec_returns i; exact .inl ⟨.word w, h⟩
  | select code bus =>
    rcases h : formatOfCode code with _ | f
    · exact .inr ⟨code, bus, rfl, h, fun s => by simp [perform, h]⟩
    · exact .inl ⟨.word (encodeRequest (bus.request f)), fun s => by simp [perform, h, returnWord]⟩
  | _ => exact .inl ⟨_, fun _ => rfl⟩

/-- What a step that answers next has done: served the next call, or cleared the output when there was none. -/
theorem step_cases {s t : State} (h : step s = .next t) :
    (s.calls = [] ∧ t = s.setOutput none) ∨
    (∃ c rest o, s.calls = c :: rest ∧ (∀ u, perform c u = returnOutput o u) ∧
      t = (s.setCalls rest).setOutput (some o)) := by
  rcases hc : s.calls with _ | ⟨c, rest⟩
  · exact .inl ⟨rfl, by simpa [step, hc, idle] using h.symm⟩
  · right
    simp only [step, hc] at h
    obtain ⟨o, ho⟩ | ⟨code, bus, -, -, hr⟩ := perform_cases c
    · exact ⟨c, rest, o, rfl, ho, returnOutput_next (by rw [← ho, h])⟩
    · rw [hr] at h; cases h

/-- A step with a call presented serves it. -/
theorem step_of_call {s : State} {c : Call} {rest : List Call} (h : s.calls = c :: rest) :
    step s = perform c (s.setCalls rest) := by simp [step, h]

/-- The call a table word stands for is the one the next step serves. -/
theorem step_withFetchWord (s : State) (nbits w : Nat) :
    step (s.withFetchWord nbits w) = perform (tableCall nbits w) s := by
  rw [step_of_call (c := tableCall nbits w) (rest := s.calls) rfl]; rfl

end Sys2Proof.Machine
end

