-- ==== Sys2Proof/Machine/Flags.lean ====
section
/-! DEFINITION. The block "has no status flags and no condition codes. No encoder call writes any flag" (R15), and
truncation sets no status bit (R139): there is no flag computation to define, and `State` has no field for one. -/
end

