-- ==== Sys2Proof/Tests/Slice0.lean ====
section
/-! SUPPORT. Tests of slice 0. Expected words and texts come from the spec: the encodings of spec/opcode_table.json written
out field by field, and the vectors of 95_test_vectors.md. -/

namespace Sys2Proof.Tests
open Sys2Proof Sys2Proof.Machine

/-- The word at the output after a mnemonic's call from a state that has other calls and another output. -/
def wordAfter (i : Instr) : Option Word :=
  match exec i ⟨[.instr .ecall], some (.packed 7)⟩ with
  | .next ⟨[.instr .ecall], some (.word w)⟩ => some w
  | _ => none

/-! WellFormed refuses an ill-formed term for each check. -/

theorem test_wf_accepts : (Instr.sw 31 0 (-2048)).wellFormed = true ∧ (Instr.beq 0 31 4094).wellFormed = true := by decide
theorem test_wf_register_high : (Instr.add 32 1 2).wellFormed = false := by decide
theorem test_wf_register_negative : (Instr.add 1 2 (-1)).wellFormed = false := by decide
theorem test_wf_imm12 : (Instr.addi 1 2 2048).wellFormed = false ∧ (Instr.sb 1 2 (-2049)).wellFormed = false := by decide
theorem test_wf_immB_odd : (Instr.beq 1 2 3).wellFormed = false := by decide
theorem test_wf_immB_range : (Instr.bne 1 2 4096).wellFormed = false ∧ (Instr.bne 1 2 (-4098)).wellFormed = false := by decide
theorem test_wf_immU : (Instr.lui 1 1048576).wellFormed = false ∧ (Instr.auipc 1 (-1)).wellFormed = false := by decide
theorem test_wf_immJ_odd : (Instr.jal 1 5).wellFormed = false := by decide
theorem test_wf_immJ_range : (Instr.jal 1 1048576).wellFormed = false := by decide
theorem test_wf_shamt : (Instr.slli 1 2 32).wellFormed = false ∧ (Instr.srai 1 2 (-1)).wellFormed = false := by decide
theorem test_wf_nibble : (Instr.fence 0 16 0).wellFormed = false ∧ (Instr.fence (-1) 0 0).wellFormed = false := by decide

/-! Every constructor's decoding, the word written out from the row's encoding. -/

theorem test_decode_add : decodeTableWord 32 (0b0000000#7 ++ 0b00101#5 ++ 0b11111#5 ++ 0b000#3 ++ 0b01011#5 ++ 0b0110011#7 : Word).toNat = some (.add 11 31 5) := by decide
theorem test_decode_sub : decodeTableWord 32 (0b0100000#7 ++ 0b00010#5 ++ 0b10101#5 ++ 0b000#3 ++ 0b01101#5 ++ 0b0110011#7 : Word).toNat = some (.sub 13 21 2) := by decide
theorem test_decode_sll : decodeTableWord 32 (0b0000000#7 ++ 0b10010#5 ++ 0b11011#5 ++ 0b001#3 ++ 0b00011#5 ++ 0b0110011#7 : Word).toNat = some (.sll 3 27 18) := by decide
theorem test_decode_slt : decodeTableWord 32 (0b0000000#7 ++ 0b10011#5 ++ 0b01100#5 ++ 0b010#3 ++ 0b00100#5 ++ 0b0110011#7 : Word).toNat = some (.slt 4 12 19) := by decide
theorem test_decode_sltu : decodeTableWord 32 (0b0000000#7 ++ 0b10001#5 ++ 0b11110#5 ++ 0b011#3 ++ 0b00010#5 ++ 0b0110011#7 : Word).toNat = some (.sltu 2 30 17) := by decide
theorem test_decode_xor : decodeTableWord 32 (0b0000000#7 ++ 0b00011#5 ++ 0b00010#5 ++ 0b100#3 ++ 0b00111#5 ++ 0b0110011#7 : Word).toNat = some (.xor 7 2 3) := by decide
theorem test_decode_srl : decodeTableWord 32 (0b0000000#7 ++ 0b00011#5 ++ 0b01110#5 ++ 0b101#3 ++ 0b01110#5 ++ 0b0110011#7 : Word).toNat = some (.srl 14 14 3) := by decide
theorem test_decode_sra : decodeTableWord 32 (0b0100000#7 ++ 0b10010#5 ++ 0b00011#5 ++ 0b101#3 ++ 0b01000#5 ++ 0b0110011#7 : Word).toNat = some (.sra 8 3 18) := by decide
theorem test_decode_or : decodeTableWord 32 (0b0000000#7 ++ 0b11011#5 ++ 0b00010#5 ++ 0b110#3 ++ 0b01110#5 ++ 0b0110011#7 : Word).toNat = some (.or 14 2 27) := by decide
theorem test_decode_and : decodeTableWord 32 (0b0000000#7 ++ 0b11111#5 ++ 0b00100#5 ++ 0b111#3 ++ 0b10011#5 ++ 0b0110011#7 : Word).toNat = some (.and 19 4 31) := by decide
theorem test_decode_addi : decodeTableWord 32 (0b100111111010#12 ++ 0b10101#5 ++ 0b000#3 ++ 0b01000#5 ++ 0b0010011#7 : Word).toNat = some (.addi 8 21 (-1542)) := by decide
theorem test_decode_slti : decodeTableWord 32 (0b100110010110#12 ++ 0b10011#5 ++ 0b010#3 ++ 0b10011#5 ++ 0b0010011#7 : Word).toNat = some (.slti 19 19 (-1642)) := by decide
theorem test_decode_sltiu : decodeTableWord 32 (0b110001000010#12 ++ 0b00010#5 ++ 0b011#3 ++ 0b01000#5 ++ 0b0010011#7 : Word).toNat = some (.sltiu 8 2 (-958)) := by decide
theorem test_decode_xori : decodeTableWord 32 (0b101111000100#12 ++ 0b01110#5 ++ 0b100#3 ++ 0b01010#5 ++ 0b0010011#7 : Word).toNat = some (.xori 10 14 (-1084)) := by decide
theorem test_decode_ori : decodeTableWord 32 (0b110111001000#12 ++ 0b01010#5 ++ 0b110#3 ++ 0b10011#5 ++ 0b0010011#7 : Word).toNat = some (.ori 19 10 (-568)) := by decide
theorem test_decode_andi : decodeTableWord 32 (0b111000000011#12 ++ 0b10011#5 ++ 0b111#3 ++ 0b00100#5 ++ 0b0010011#7 : Word).toNat = some (.andi 4 19 (-509)) := by decide
theorem test_decode_slli : decodeTableWord 32 (0b0000000#7 ++ 0b10010#5 ++ 0b00100#5 ++ 0b001#3 ++ 0b01100#5 ++ 0b0010011#7 : Word).toNat = some (.slli 12 4 18) := by decide
theorem test_decode_srli : decodeTableWord 32 (0b0000000#7 ++ 0b10011#5 ++ 0b00011#5 ++ 0b101#3 ++ 0b10111#5 ++ 0b0010011#7 : Word).toNat = some (.srli 23 3 19) := by decide
theorem test_decode_srai : decodeTableWord 32 (0b0100000#7 ++ 0b00111#5 ++ 0b10100#5 ++ 0b101#3 ++ 0b00010#5 ++ 0b0010011#7 : Word).toNat = some (.srai 2 20 7) := by decide
theorem test_decode_lb : decodeTableWord 32 (0b010110101110#12 ++ 0b10110#5 ++ 0b000#3 ++ 0b10000#5 ++ 0b0000011#7 : Word).toNat = some (.lb 16 22 1454) := by decide
theorem test_decode_lh : decodeTableWord 32 (0b011010000000#12 ++ 0b01011#5 ++ 0b001#3 ++ 0b11001#5 ++ 0b0000011#7 : Word).toNat = some (.lh 25 11 1664) := by decide
theorem test_decode_lw : decodeTableWord 32 (0b110111000000#12 ++ 0b01010#5 ++ 0b010#3 ++ 0b01100#5 ++ 0b0000011#7 : Word).toNat = some (.lw 12 10 (-576)) := by decide
theorem test_decode_lbu : decodeTableWord 32 (0b101010011110#12 ++ 0b11001#5 ++ 0b100#3 ++ 0b10111#5 ++ 0b0000011#7 : Word).toNat = some (.lbu 23 25 (-1378)) := by decide
theorem test_decode_lhu : decodeTableWord 32 (0b011111010111#12 ++ 0b01010#5 ++ 0b101#3 ++ 0b10011#5 ++ 0b0000011#7 : Word).toNat = some (.lhu 19 10 2007) := by decide
theorem test_decode_jalr : decodeTableWord 32 (0b011001011100#12 ++ 0b01011#5 ++ 0b000#3 ++ 0b11101#5 ++ 0b1100111#7 : Word).toNat = some (.jalr 29 11 1628) := by decide
theorem test_decode_sb : decodeTableWord 32 (0b1011110#7 ++ 0b00011#5 ++ 0b10100#5 ++ 0b000#3 ++ 0b00111#5 ++ 0b0100011#7 : Word).toNat = some (.sb 3 20 (-1081)) := by decide
theorem test_decode_sh : decodeTableWord 32 (0b0010111#7 ++ 0b00110#5 ++ 0b01110#5 ++ 0b001#3 ++ 0b10010#5 ++ 0b0100011#7 : Word).toNat = some (.sh 6 14 754) := by decide
theorem test_decode_sw : decodeTableWord 32 (0b0101011#7 ++ 0b10000#5 ++ 0b11110#5 ++ 0b010#3 ++ 0b11110#5 ++ 0b0100011#7 : Word).toNat = some (.sw 16 30 1406) := by decide
theorem test_decode_beq : decodeTableWord 32 (0b1#1 ++ 0b100111#6 ++ 0b10110#5 ++ 0b11111#5 ++ 0b000#3 ++ 0b1011#4 ++ 0b0#1 ++ 0b1100011#7 : Word).toNat = some (.beq 31 22 (-2826)) := by decide
theorem test_decode_bne : decodeTableWord 32 (0b0#1 ++ 0b100000#6 ++ 0b10011#5 ++ 0b10010#5 ++ 0b001#3 ++ 0b1010#4 ++ 0b0#1 ++ 0b1100011#7 : Word).toNat = some (.bne 18 19 1044) := by decide
theorem test_decode_blt : decodeTableWord 32 (0b0#1 ++ 0b111110#6 ++ 0b01100#5 ++ 0b10111#5 ++ 0b100#3 ++ 0b0100#4 ++ 0b1#1 ++ 0b1100011#7 : Word).toNat = some (.blt 23 12 4040) := by decide
theorem test_decode_bge : decodeTableWord 32 (0b1#1 ++ 0b100011#6 ++ 0b01111#5 ++ 0b11010#5 ++ 0b101#3 ++ 0b0011#4 ++ 0b0#1 ++ 0b1100011#7 : Word).toNat = some (.bge 26 15 (-2970)) := by decide
theorem test_decode_bltu : decodeTableWord 32 (0b0#1 ++ 0b001010#6 ++ 0b11111#5 ++ 0b00011#5 ++ 0b110#3 ++ 0b0011#4 ++ 0b0#1 ++ 0b1100011#7 : Word).toNat = some (.bltu 3 31 326) := by decide
theorem test_decode_bgeu : decodeTableWord 32 (0b1#1 ++ 0b100001#6 ++ 0b10110#5 ++ 0b10111#5 ++ 0b111#3 ++ 0b0100#4 ++ 0b0#1 ++ 0b1100011#7 : Word).toNat = some (.bgeu 23 22 (-3032)) := by decide
theorem test_decode_lui : decodeTableWord 32 (0b10011110100001001101#20 ++ 0b00010#5 ++ 0b0110111#7 : Word).toNat = some (.lui 2 649293) := by decide
theorem test_decode_auipc : decodeTableWord 32 (0b11100100001010110000#20 ++ 0b10101#5 ++ 0b0010111#7 : Word).toNat = some (.auipc 21 934576) := by decide
theorem test_decode_jal : decodeTableWord 32 (0b0#1 ++ 0b1010101010#10 ++ 0b0#1 ++ 0b01100011#8 ++ 0b01010#5 ++ 0b1101111#7 : Word).toNat = some (.jal 10 406868) := by decide
theorem test_decode_fence : decodeTableWord 32 (0b0000#4 ++ 0b1010#4 ++ 0b0101#4 ++ 0b00000#5 ++ 0b000#3 ++ 0b00000#5 ++ 0b0001111#7 : Word).toNat = some (.fence 0 10 5) := by decide
theorem test_decode_ecall : decodeTableWord 32 (0b000000000000#12 ++ 0b00000#5 ++ 0b000#3 ++ 0b00000#5 ++ 0b1110011#7 : Word).toNat = some .ecall := by decide
theorem test_decode_ebreak : decodeTableWord 32 (0b000000000001#12 ++ 0b00000#5 ++ 0b000#3 ++ 0b00000#5 ++ 0b1110011#7 : Word).toNat = some .ebreak := by decide

/-! The decoder rejects by name, and the rows never overlap. -/

theorem test_reject_opcode : decodeWord 0x00000000 = .error .unknownOpcode := by decide
theorem test_reject_funct3 : decodeWord 0x00003003 = .error .unknownFunct3 := by decide
theorem test_reject_funct7 : decodeWord 0x02025193 = .error .unknownFunct7 := by decide
theorem test_reject_mret : decodeWord 0x30200073 = .error .unknownSystem := by decide
theorem test_reject_short : decode [0x13, 0, 0] = .error .tooShort := by decide
theorem test_decode_keeps_rest : (decode [0x13, 0x05, 0x15, 0x00, 0x73]).toOption.map Prod.snd = some [0x73] := by decide
theorem test_wordOfBytes : wordOfBytes 0x13 0x05 0x15 0x00 = 0x00150513 := by decide
theorem test_rows_disjoint : opcodeTable.Pairwise
    (fun a b => a.pattern &&& (a.mask &&& b.mask) ≠ b.pattern &&& (a.mask &&& b.mask)) := by decide
theorem test_rows_count : opcodeTable.length = 40 ∧ opcodeTable.all (fun r => r.pattern &&& r.mask == r.pattern) := by decide

/-! One step per mnemonic: 95_test_vectors.md section 4, out-of-range operands among them. -/

theorem test_exec_add_rd_32 : wordAfter (.add 32 1 2) = some 0x00208033 := by decide
theorem test_exec_sub_same : wordAfter (.sub 5 5 5) = some 0x405282B3 := by decide
theorem test_exec_sll : wordAfter (.sll 1 2 3) = some 0x003110B3 := by decide
theorem test_exec_slt : wordAfter (.slt 1 2 3) = some 0x003120B3 := by decide
theorem test_exec_sltu : wordAfter (.sltu 1 2 3) = some 0x003130B3 := by decide
theorem test_exec_xor : wordAfter (.xor 1 2 3) = some 0x003140B3 := by decide
theorem test_exec_srl : wordAfter (.srl 1 2 3) = some 0x003150B3 := by decide
theorem test_exec_sra : wordAfter (.sra 1 2 3) = some 0x403150B3 := by decide
theorem test_exec_or : wordAfter (.or 1 2 3) = some 0x003160B3 := by decide
theorem test_exec_and_31 : wordAfter (.and 31 31 31) = some 0x01FFFFB3 := by decide
theorem test_exec_addi_2048 : wordAfter (.addi 1 2 2048) = some 0x80010093 := by decide
theorem test_exec_slti : wordAfter (.slti 1 2 (-1)) = some 0xFFF12093 := by decide
theorem test_exec_sltiu : wordAfter (.sltiu 1 2 (-2048)) = some 0x80013093 := by decide
theorem test_exec_xori : wordAfter (.xori 1 2 2047) = some 0x7FF14093 := by decide
theorem test_exec_ori : wordAfter (.ori 1 2 1) = some 0x00116093 := by decide
theorem test_exec_andi : wordAfter (.andi 1 2 (-1)) = some 0xFFF17093 := by decide
theorem test_exec_slli_32 : wordAfter (.slli 3 4 32) = some 0x00021193 := by decide
theorem test_exec_srli : wordAfter (.srli 3 4 31) = some 0x01F25193 := by decide
theorem test_exec_srai_32 : wordAfter (.srai 3 4 32) = some 0x40025193 := by decide
theorem test_exec_lb : wordAfter (.lb 5 6 (-1)) = some 0xFFF30283 := by decide
theorem test_exec_lh : wordAfter (.lh 5 6 2047) = some 0x7FF31283 := by decide
theorem test_exec_lw_2048 : wordAfter (.lw 5 6 2048) = some 0x80032283 := by decide
theorem test_exec_lbu : wordAfter (.lbu 5 6 (-2048)) = some 0x80034283 := by decide
theorem test_exec_lhu : wordAfter (.lhu 5 6 (-1)) = some 0xFFF35283 := by decide
theorem test_exec_jalr_odd : wordAfter (.jalr 1 2 3) = some 0x003100E7 := by decide
theorem test_exec_sb_32 : wordAfter (.sb 7 8 32) = some 0x02740023 := by decide
theorem test_exec_sh_31 : wordAfter (.sh 7 8 31) = some 0x00741FA3 := by decide
theorem test_exec_sw_4096 : wordAfter (.sw 5 6 4096) = some 0x00532023 := by decide
theorem test_exec_beq_imm11 : wordAfter (.beq 1 2 2048) = some 0x002080E3 := by decide
theorem test_exec_bne : wordAfter (.bne 1 2 (-2)) = some 0xFE209FE3 := by decide
theorem test_exec_blt : wordAfter (.blt 1 2 4094) = some 0x7E20CFE3 := by decide
theorem test_exec_bge_5000 : wordAfter (.bge 1 2 5000) = some 0xB820D463 := by decide
theorem test_exec_bltu : wordAfter (.bltu 1 2 (-4096)) = some 0x8020E063 := by decide
theorem test_exec_bgeu : wordAfter (.bgeu 1 2 2) = some 0x0020F163 := by decide
theorem test_exec_lui_whole : wordAfter (.lui 10 0x12345000) = some 0x45000537 := by decide
theorem test_exec_auipc : wordAfter (.auipc 10 524288) = some 0x80000517 := by decide
theorem test_exec_jal_odd : wordAfter (.jal 1 5) = some 0x004000EF := by decide
theorem test_exec_fence : wordAfter (.fence 0 0b0100 0b1000) = some 0x0480000F := by decide
theorem test_exec_ecall : wordAfter .ecall = some 0x00000073 := by decide
theorem test_exec_ebreak : wordAfter .ebreak = some 0x00100073 := by decide

/-! The packer, the shift composer and the other calls: 95_test_vectors.md sections 2 and 3, 4.10. -/

theorem test_pack_vectors : pack 8 3 0 = 0 ∧ pack (-1) 12 20 = 0xFFF00000 ∧ pack (-2048) 12 0 = 0x800 ∧
    pack 63 5 7 = 0xF80 ∧ pack (-32) 5 0 = 0 ∧ pack 2097151 20 12 = 0xFFFFF000 := by decide
theorem test_place_vectors : place (-4) 12 12 31 = 0x80000000 ∧ place (-4) 4 1 8 = 0xE00 ∧ place (-4) 11 11 7 = 0x80 ∧
    place 2047 11 5 25 = 0x7E000000 ∧ place 4 10 1 21 = 0x00400000 ∧ place 3 4 1 8 = 0x100 := by decide
theorem test_shift_imm_vectors : shiftImm 0x20 1 = 0x401 ∧ shiftImm 0 32 = 0 ∧ shiftImm 0x20 33 = 0x401 ∧
    shiftImm 0xFF 0 = 0xFE0 ∧ shiftImm 0 (-1) = 0x1F := by decide
theorem test_imm_footprints : encodeS (-1) 0 0 0 0 = 0xFE000F80 ∧ encodeB (-1) 0 0 0 0 = 0xFE000F80 ∧
    encodeU (-1) 0 0 = 0xFFFFF000 ∧ encodeJ (-1) 0 0 = 0xFFFFF000 := by decide
theorem test_step_dispatch : step ⟨[.encode (.S 2047 5 6 2 0x23)], none⟩ = .next ⟨[], some (.word 0x7E532FA3)⟩ := by rfl
theorem test_step_shift_imm : step ⟨[.shiftImm 0x20 31], none⟩ = .next ⟨[], some (.imm12 0x41F)⟩ := by rfl
theorem test_step_idle : step ⟨[], some (.packed 3)⟩ = .next ⟨[], none⟩ := by rfl
theorem test_fetch_from_reset : step (State.reset.withFetchWord 32 0xFF010113) = .next ⟨[], some (.word 0xFF010113)⟩ := by rfl
theorem test_fetch_mret_raw : step (State.reset.withFetchWord 32 0x30200073) = .next ⟨[], some (.word 0x30200073)⟩ := by rfl
theorem test_program1_image : image [0x00500093, 0xFE009CE3, 0x00100073] =
    [0x93, 0x00, 0x50, 0x00, 0xE3, 0x9C, 0x00, 0xFE, 0x73, 0x00, 0x10, 0x00] := by decide
theorem test_program1_outputs : outputs 3 ⟨[.instr (.addi 1 0 5), .instr (.bne 1 0 (-8)), .instr .ebreak], none⟩ =
    [.word 0x00500093, .word 0xFE009CE3, .word 0x00100073] := by rfl
theorem test_render_vectors : render (.sw 5 6 8) = some "sw x5, 8(x6)" ∧ render (.srai 3 4 31) = some "srai x3, x4, 31" ∧
    render (.lui 10 1048575) = some "lui x10, 1048575" ∧ render (.jal 1 4) = some "jal x1, 4" := by decide

/-! Witnesses: for each statement with hypotheses, values that meet them, at the ends of each clause's range. -/

theorem witness_FieldSpellingsAgree : (1 : Nat) ≤ 12 := by decide
theorem witness_PlaceTakesTheNamedBits : (5 : Nat) ≤ 10 ∧ (12 : Nat) ≤ 12 := by decide
theorem witness_EveryRequestFollowsItsLayout_row :
    (⟨7, 7, .imm, 11⟩ : LayoutRow) ∈ layout (EncodeRequest.B (-4) 1 0 0 0x63).format := by decide
theorem witness_EveryRequestFollowsItsLayout_B : bits 0 12 1 = bits 8193 12 1 := by decide
theorem witness_EveryRequestFollowsItsLayout_J : bits 0 20 1 = bits 2097153 20 1 := by decide
theorem witness_FieldsTileTheWord : (31 : Nat) < 32 ∧
    ∃ row ∈ layout .B, row.lo ≤ 31 ∧ 31 ≤ row.hi := ⟨by decide, ⟨31, 31, .imm, 12⟩, by decide, by decide, by decide⟩
theorem witness_BranchAndJumpImmediatesDecodeEven_B : (-4096 : Int) ≤ -4096 ∧ (4095 : Int) ≤ 4095 ∧ (-4096 : Int) ≤ 4095 := by
  decide
theorem witness_BranchAndJumpImmediatesDecodeEven_J : (-1048576 : Int) ≤ 1048575 := by decide
theorem witness_RangeEndsDecodeBack : (4094 : Int) ∈ [(-4096 : Int), 4094] := by decide
theorem witness_InRangeImmediatesAreExact_IS : (-2048 : Int) ≤ 2047 ∧ (2047 : Int) ≤ 2047 := by decide
theorem witness_InRangeImmediatesAreExact_B : (-4096 : Int) ≤ 4094 ∧ (4094 : Int) ≤ 4094 ∧ (4094 : Int) % 2 = 0 := by decide
theorem witness_InRangeImmediatesAreExact_U : (0 : Int) ≤ 1048575 ∧ (1048575 : Int) ≤ 1048575 := by decide
theorem witness_InRangeImmediatesAreExact_J : (-1048576 : Int) ≤ 1048574 ∧ (1048574 : Int) ≤ 1048574 ∧
    (1048574 : Int) % 2 = 0 := by decide
theorem witness_OddAndWideBranchOffsetsAreEncoded : (-3 : Int) % 2 = 1 := by decide
theorem witness_OddAndWideJumpOffsetsAreEncoded : (1048575 : Int) % 2 = 1 := by decide
theorem witness_ShiftImmediateIsComposedMasked : (127 : Nat) < 128 ∧ (31 : Nat) < 32 := by decide
theorem witness_SilentMisuseGivesAnotherWord : (7 : Int) % 2 = 1 := by decide
theorem witness_EveryCallReturnsAValue_plain : Call.Assigned (.instr (.add 32 (-1) 5)) := trivial
theorem witness_EveryCallReturnsAValue_shiftImm : Call.Assigned (.shiftImm 0 32) := trivial
theorem witness_EveryCallReturnsAValue_pack : Call.Assigned (.pack .immU (-1)) := trivial
theorem witness_EveryCallReturnsAValue_select :
    Call.Assigned (.select (Config.selEncoding.code .B) ⟨0, 2, 1, 0, 0, 0x63, -4⟩) := ⟨.B, rfl⟩
theorem witness_MnemonicCallsChangeOnlyTheOutput :
    exec (.add 1 2 3) .reset = .next ⟨[], some (.word 0x003100B3)⟩ := by rfl
theorem witness_CallsGiveTheWordsTheyWouldGiveAlone :
    (∀ c ∈ [Call.instr .ecall, .select (Config.selEncoding.code .R) ⟨0, 3, 2, 0, 1, 0x33, 0⟩], c.Assigned) ∧
    [Call.instr .ecall, .select (Config.selEncoding.code .R) ⟨0, 3, 2, 0, 1, 0x33, 0⟩].Perm
      [.select (Config.selEncoding.code .R) ⟨0, 3, 2, 0, 1, 0x33, 0⟩, .instr .ecall] :=
  ⟨by simp [Call.Assigned], List.Perm.swap _ _ _⟩
theorem witness_SelectCodesChooseTheFormatOrAreRefused : ∃ code : Nat, ∀ f, Config.selEncoding.code f ≠ code :=
  ⟨Config.selEncoding.code .R + Config.selEncoding.code .I + Config.selEncoding.code .S + Config.selEncoding.code .B +
    Config.selEncoding.code .U + Config.selEncoding.code .J + 1, fun f => by cases f <;> omega⟩
theorem witness_WordsAreSerialisedLittleEndian : (3 : Nat) < 4 := by decide
theorem witness_DecodeInvertsEncode : (Instr.jal 31 (-1048576)).wellFormed = true := by decide
theorem witness_EncodeInvertsDecode_fence : decodeWord 0x8339028F = .ok (.fence 8 3 3) := by decide
theorem witness_EncodeInvertsDecode_other : decodeWord 0x80525063 = .ok (.bge 4 5 (-4096)) := by decide
theorem witness_ReturnedWordReadsBackMasked : (Instr.fence 15 15 15).wellFormed = true := by decide
theorem witness_StepRunsTheDecodedInstruction_call :
    (State.mk [.instr .ebreak, .instr .ecall] none).calls = .instr .ebreak :: [.instr .ecall] := rfl
theorem witness_StepRunsTheDecodedInstruction_table : decodeTableWord 32 0x00500093 = some (.addi 1 0 5) := by decide
theorem witness_StepRunsTheDecodedInstruction_word : decodeWord 0x00500093 = .ok (.addi 1 0 5) := by decide
theorem witness_WordsOfNoRowAreServedRaw : decodeWord 0xFFFFFFFF = .error .unknownOpcode := by decide
theorem witness_StepKeepsTheInvariant : (State.mk [.pack .immI (-1)] none).Inv ∧
    step ⟨[.pack .immI (-1)], none⟩ = .next ⟨[], some (.packed 0xFFF00000)⟩ :=
  ⟨⟨by simp [Call.Assigned], by simp⟩, rfl⟩
theorem witness_InvariantStatesNeverStop : (State.mk [.instr (.add 32 0 0)] (some (.packed 4294967295))).Inv :=
  ⟨by simp [Call.Assigned], by simp [Output.InRange]⟩
theorem witness_SystemTextNamesTheSets : ((0, "0") : Int × String) ∈ [((0, "0") : Int × String), (15, "iorw")] ∧
    render (.fence 0 15 0) = some "fence iorw, 0" := by decide
theorem witness_NoCallNoOutput : (State.mk [] (some (.packed 7))).calls = [] := rfl

end Sys2Proof.Tests
end

/-! Masking, zero extension and bit ranges of an integer as one operation (R7). -/

namespace Sys2Proof.Machine

/-- No bit is in the AND with the mask of width 0. -/
theorem land_mask_zero (v : Int) : Int.land v (mask 0) = 0 := by
  cases v with
  | ofNat m => exact congrArg Int.ofNat (Nat.and_zero m)
  | negSucc m => exact congrArg Int.ofNat (by simp [Nat.ldiff])

/-- The mask of one more bit is the mask with a 1 put below it. -/
theorem mask_succ (w : Nat) : mask (w + 1) = Int.bit true (mask w) := by
  rw [mask, mask, Int.bit_val, cond_true]
  ring

/-- The low `w + 1` bits of an integer are its bit 0 below the low `w` bits of its half. -/
theorem zext_succ (w : Nat) (v : Int) : zext (w + 1) v = 2 * zext w (v / 2) + v % 2 := by
  simp only [zext, pow_succ', Int.emod_def, ← Int.ediv_ediv_of_nonneg (show (0 : Int) ≤ 2 by decide)]
  ring

/-- The AND with a mask, in infinite two's complement, is zero extension: bit by bit from bit 0. -/
theorem land_mask (v : Int) (w : Nat) : Int.land v (mask w) = zext w v := by
  induction w generalizing v with
  | zero => simp [land_mask_zero, zext]
  | succ w ih =>
    calc Int.land v (mask (w + 1))
        = Int.land (Int.bit v.bodd v.div2) (Int.bit true (mask w)) := by rw [Int.bit_decomp, mask_succ]
      _ = 2 * zext w (v / 2) + cond v.bodd 1 0 := by rw [Int.land_bit, ih, Int.bit_val, Int.div2_val, Bool.and_true]
      _ = zext (w + 1) v := by
        have hv := Int.bodd_add_div2 v
        rw [Int.div2_val] at hv
        rw [zext_succ]
        omega

/-- A bit range is the zero extension of the value shifted down to it. -/
theorem bits_eq_zext (v : Int) (hi lo : Nat) : bits v hi lo = zext (hi - lo + 1) (v >>> lo) := by
  rw [bits, zext, Int.shiftRight_eq_div_pow]
  norm_cast

end Sys2Proof.Machine

namespace Sys2Proof.Proofs
open Machine

/-- Settles O1: the AND with a mask is zero extension by induction on the width, and a bit range is the zero extension
of the shifted value. -/
theorem fieldSpellingsAgree : Obligations.FieldSpellingsAgree := by
  intro v w lo hw
  have hrange (lo : Nat) : bits v (lo + w - 1) lo = zext w (v >>> lo) := by
    rw [bits_eq_zext, show lo + w - 1 - lo + 1 = w by omega]
  refine ⟨land_mask v w, ?_, by rw [land_mask, hrange]⟩
  simpa using (hrange 0).symm

end Sys2Proof.Proofs

/-! Parts with disjoint positions: their OR is their sum (R8). -/

namespace Sys2Proof.Machine

/-- A packed value has no bit at or above the end of its field. -/
theorem pack_lt (v : Int) (w o : Nat) : pack v w o < 2 ^ (o + w) := by
  rw [pack_eq, Nat.shiftLeft_eq, pow_add, Nat.mul_comm]
  exact Nat.mul_lt_mul_of_pos_left (BitVec.isLt _) (by positivity)

/-- A packed value has no bit below its offset. -/
theorem two_pow_dvd_pack (v : Int) (w o : Nat) : 2 ^ o ∣ pack v w o := by
  rw [pack_eq, Nat.shiftLeft_eq]
  exact Nat.dvd_mul_left _ _

/-- Parts joined from the top of the word down to position `o`: their OR `a` is their sum `s`, has no bit below `o`, and
loses none at 32. -/
structure JoinedDownTo (o a s : Nat) : Prop where
  or_eq_sum : a = s
  dvd : 2 ^ o ∣ a
  le : o ≤ 32
  lt : a < 2 ^ 32

/-- The topmost part. -/
theorem JoinedDownTo.of_pack (v : Int) (w o : Nat) (h : o + w ≤ 32) : JoinedDownTo o (pack v w o) (pack v w o) :=
  ⟨rfl, two_pow_dvd_pack v w o, by omega, (pack_lt v w o).trans_le (Nat.pow_le_pow_right two_pos h)⟩

/-- The topmost part, of a split immediate. -/
theorem JoinedDownTo.of_place (v : Int) (hi lo dest : Nat) (h : dest + (hi - lo + 1) ≤ 32) :
    JoinedDownTo dest (place v hi lo dest) (place v hi lo dest) := .of_pack (v >>> lo) (hi - lo + 1) dest h

namespace JoinedDownTo
variable {o' a s : Nat}

/-- One more part, in positions below those joined so far: no carry, so the OR stays the sum. -/
theorem or_pack (hj : JoinedDownTo o' a s) (v : Int) (w o : Nat) (h : o + w ≤ o') :
    JoinedDownTo o (a ||| pack v w o) (s + pack v w o) := by
  obtain ⟨rfl, hdvd, hle, hlt⟩ := hj
  have hbelow : pack v w o < 2 ^ o' := (pack_lt v w o).trans_le (Nat.pow_le_pow_right two_pos h)
  have hor : a ||| pack v w o = a + pack v w o := by
    obtain ⟨k, rfl⟩ := hdvd
    exact (Nat.two_pow_add_eq_or_of_lt hbelow k).symm
  refine ⟨hor, ?_, by omega, Nat.or_lt_two_pow hlt (hbelow.trans_le (Nat.pow_le_pow_right two_pos hle))⟩
  rw [hor]
  exact Nat.dvd_add ((pow_dvd_pow 2 (by omega)).trans hdvd) (two_pow_dvd_pack v w o)

/-- One more part, of a split immediate. -/
theorem or_place (hj : JoinedDownTo o' a s) (v : Int) (hi lo dest : Nat) (h : dest + (hi - lo + 1) ≤ o') :
    JoinedDownTo dest (a ||| place v hi lo dest) (s + place v hi lo dest) :=
  hj.or_pack (v >>> lo) (hi - lo + 1) dest h

/-- The word of the joined parts is their OR and their sum. -/
theorem toNat_toWord (hj : JoinedDownTo o' a s) : (toWord a).toNat = a ∧ (toWord a).toNat = s := by
  have hword : (toWord a).toNat = a := (BitVec.toNat_ofNat a 32).trans (Nat.mod_eq_of_lt hj.lt)
  exact ⟨hword, hword.trans hj.or_eq_sum⟩

end JoinedDownTo

end Sys2Proof.Machine

namespace Sys2Proof.Proofs
open Machine

/-- Settles O4: the parts of each format are joined from position 31 down, each below the one before. -/
theorem encoderResultIsOrAndSumOfParts : Obligations.EncoderResultIsOrAndSumOfParts := by
  refine ⟨fun f7 rs2 rs1 f3 rd op => ?_, fun imm rs1 f3 rd op => ?_, fun imm rs2 rs1 f3 op => ?_,
    fun imm rs2 rs1 f3 op => ?_, fun imm rd op => ?_, fun imm rd op => ?_⟩
  · exact (JoinedDownTo.of_pack f7 7 25 (by decide) |>.or_pack rs2 5 20 (by decide) |>.or_pack rs1 5 15 (by decide)
      |>.or_pack f3 3 12 (by decide) |>.or_pack rd 5 7 (by decide) |>.or_pack op 7 0 (by decide)).toNat_toWord
  · exact (JoinedDownTo.of_pack imm 12 20 (by decide) |>.or_pack rs1 5 15 (by decide) |>.or_pack f3 3 12 (by decide)
      |>.or_pack rd 5 7 (by decide) |>.or_pack op 7 0 (by decide)).toNat_toWord
  · exact (JoinedDownTo.of_place imm 11 5 25 (by decide) |>.or_pack rs2 5 20 (by decide) |>.or_pack rs1 5 15 (by decide)
      |>.or_pack f3 3 12 (by decide) |>.or_place imm 4 0 7 (by decide) |>.or_pack op 7 0 (by decide)).toNat_toWord
  · exact (JoinedDownTo.of_place imm 12 12 31 (by decide) |>.or_place imm 10 5 25 (by decide)
      |>.or_pack rs2 5 20 (by decide) |>.or_pack rs1 5 15 (by decide) |>.or_pack f3 3 12 (by decide)
      |>.or_place imm 4 1 8 (by decide) |>.or_place imm 11 11 7 (by decide) |>.or_pack op 7 0 (by decide)).toNat_toWord
  · exact (JoinedDownTo.of_pack imm 20 12 (by decide) |>.or_pack rd 5 7 (by decide)
      |>.or_pack op 7 0 (by decide)).toNat_toWord
  · exact (JoinedDownTo.of_place imm 20 20 31 (by decide) |>.or_place imm 10 1 21 (by decide)
      |>.or_place imm 11 11 20 (by decide) |>.or_place imm 19 12 12 (by decide) |>.or_pack rd 5 7 (by decide)
      |>.or_pack op 7 0 (by decide)).toNat_toWord

end Sys2Proof.Proofs

/-! The caller's ranges as the operands masking leaves alone (R6, R58, R157). -/

namespace Sys2Proof.Machine

/-- Zero extension leaves exactly the unsigned `n`-bit integers alone. -/
theorem zext_eq_self_iff (n : Nat) (v : Int) : zext n v = v ↔ 0 ≤ v ∧ v < 2 ^ n := by
  constructor
  · intro h
    rw [← h]
    exact ⟨Int.emod_nonneg v (by positivity), Int.emod_lt_of_pos v (by positivity)⟩
  · rintro ⟨hlo, hhi⟩
    exact Int.emod_eq_of_lt hlo hhi

/-- Sign extension leaves exactly the signed `n`-bit integers alone. -/
theorem sext_eq_self_iff (n : Nat) (v : Int) (hn : 0 < n) : sext n v = v ↔ -2 ^ (n - 1) ≤ v ∧ v < 2 ^ (n - 1) := by
  rw [sext_eq_ofInt n v hn]
  constructor
  · intro h
    rw [← h]
    exact ⟨BitVec.le_toInt _, BitVec.toInt_lt⟩
  · rintro ⟨hlo, hhi⟩
    exact BitVec.toInt_ofInt_eq_self hn hlo hhi

theorem zext_zext (n : Nat) (v : Int) : zext n (zext n v) = zext n v := Int.emod_emod v _

theorem sext_sext (n : Nat) (v : Int) (hn : 0 < n) : sext n (sext n v) = sext n v := by
  simp only [sext_eq_ofInt n _ hn, BitVec.ofInt_toInt]

/-- Sign extension keeps the parity: it changes an integer by a multiple of `2^n`. -/
theorem sext_emod_two (n : Nat) (v : Int) (hn : 0 < n) : sext n v % 2 = v % 2 := by
  obtain ⟨k, rfl⟩ : ∃ k, n = k + 1 := ⟨n - 1, by omega⟩
  have hz : zext (k + 1) v % 2 = v % 2 := Int.emod_emod_of_dvd v (dvd_pow_self 2 k.succ_ne_zero)
  have hpow : (2 : Int) ^ (k + 1) = 2 * 2 ^ k := pow_succ' 2 k
  unfold sext
  split <;> omega

/-- Sign extension with bit 0 cleared leaves an integer alone exactly when sign extension does and it is even. -/
theorem sext_sub_zext_one_eq_self_iff (n : Nat) (v : Int) (hn : 0 < n) :
    sext n v - zext 1 v = v ↔ sext n v = v ∧ v % 2 = 0 := by
  have hparity := sext_emod_two n v hn
  have hbit : zext 1 v = v % 2 := rfl
  omega

/-- Sign extension with bit 0 cleared, done twice: the first result is even and in the signed range. -/
theorem sext_sub_zext_one_idem (n : Nat) (v : Int) (hn : 1 < n) :
    sext n (sext n v - zext 1 v) - zext 1 (sext n v - zext 1 v) = sext n v - zext 1 v := by
  refine (sext_sub_zext_one_eq_self_iff n _ (by omega)).mpr ⟨?_, ?_⟩
  · rw [sext_sub_zext_one n v hn, sext_sext n _ (by omega)]
  · have hparity := sext_emod_two n v (by omega)
    have hbit : zext 1 v = v % 2 := rfl
    omega

end Sys2Proof.Machine

namespace Sys2Proof
open Machine

/-! Each range of R6 as the fixed points of its field's masking. -/

theorem regOk_iff (r : Int) : regOk r = true ↔ zext 5 r = r := by
  simp only [regOk, decide_eq_true_eq, Config.registerCount, zext_eq_self_iff]
  omega

theorem shamtOk_iff (v : Int) : shamtOk v = true ↔ zext 5 v = v := by
  simp only [shamtOk, decide_eq_true_eq, Config.shamtMax, zext_eq_self_iff]
  omega

theorem nibbleOk_iff (v : Int) : nibbleOk v = true ↔ zext 4 v = v := by
  simp only [nibbleOk, decide_eq_true_eq, Config.nibbleMax, zext_eq_self_iff]
  omega

theorem immUOk_iff (v : Int) : immUOk v = true ↔ zext 20 v = v := by
  simp only [immUOk, decide_eq_true_eq, Config.immUMin, Config.immUMax, zext_eq_self_iff]
  omega

theorem imm12Ok_iff (v : Int) : imm12Ok v = true ↔ sext 12 v = v := by
  simp only [imm12Ok, decide_eq_true_eq, Config.imm12Min, Config.imm12Max, sext_eq_self_iff 12 v (by decide)]
  omega

theorem immBOk_iff (v : Int) : immBOk v = true ↔ maskedB v = v := by
  simp only [immBOk, decide_eq_true_eq, Config.immBMin, Config.immBMax, maskedB,
    sext_sub_zext_one_eq_self_iff 13 v (by decide), sext_eq_self_iff 13 v (by decide)]
  omega

theorem immJOk_iff (v : Int) : immJOk v = true ↔ maskedJ v = v := by
  simp only [immJOk, decide_eq_true_eq, Config.immJMin, Config.immJMax, maskedJ,
    sext_sub_zext_one_eq_self_iff 21 v (by decide), sext_eq_self_iff 21 v (by decide)]
  omega

theorem maskedB_maskedB (v : Int) : maskedB (maskedB v) = maskedB v := sext_sub_zext_one_idem 13 v (by decide)

theorem maskedJ_maskedJ (v : Int) : maskedJ (maskedJ v) = maskedJ v := sext_sub_zext_one_idem 21 v (by decide)

/-- Every operand is in its range exactly when masking changes none. -/
theorem Instr.wellFormed_iff_masked_eq (i : Instr) : i.wellFormed = true ↔ i.masked = i := by
  cases i <;> simp [Instr.wellFormed, Instr.masked, regOk_iff, shamtOk_iff, nibbleOk_iff, immUOk_iff, imm12Ok_iff,
    immBOk_iff, immJOk_iff, and_assoc]

/-- Masking twice is masking once. -/
theorem Instr.masked_masked (i : Instr) : i.masked.masked = i.masked := by
  cases i <;> simp [Instr.masked, zext_zext, sext_sext, maskedB_maskedB, maskedJ_maskedJ]

end Sys2Proof

namespace Sys2Proof.Proofs

/-- Settles O47: well-formed instructions are the fixed points of masking, and masking is idempotent. -/
theorem wellFormedIffMaskingChangesNothing : Obligations.WellFormedIffMaskingChangesNothing :=
  fun i => ⟨i.wellFormed_iff_masked_eq, i.masked.wellFormed_iff_masked_eq.mpr i.masked_masked⟩

end Sys2Proof.Proofs

/-! The packer sees only the low bits of its value (R80, R82). -/

namespace Sys2Proof.Machine

/-- A packed value depends on the integer modulo `2^w` only. -/
theorem pack_add_mul_two_pow (v k : Int) (w o : Nat) : pack (v + 2 ^ w * k) w o = pack v w o := by
  rw [pack, zext, Int.add_mul_emod_self_left]
  rfl

/-- A register field depends on the index modulo 32 only (R12). -/
theorem pack_index_add (r k : Int) (o : Nat) : pack (r + 32 * k) 5 o = pack r 5 o := pack_add_mul_two_pow r k 5 o

/-- A value that fits its field is packed as it is. -/
theorem pack_natCast_of_lt {n w : Nat} (o : Nat) (h : n < 2 ^ w) : pack n w o = n <<< o := by
  rw [pack_eq, BitVec.ofInt_natCast, BitVec.toNat_ofNat, Nat.mod_eq_of_lt h]

/-- Every fixed site of `pack` lies inside the word (R85). -/
theorem PackSite.offset_add_width_le (site : PackSite) : site.offset + site.width ≤ 32 := by cases site <;> decide

/-- What `pack` returns at a fixed site fits the word. -/
theorem pack_site_lt (site : PackSite) (v : Int) : pack v site.width site.offset < 2 ^ 32 :=
  (pack_lt v site.width site.offset).trans_le (Nat.pow_le_pow_right two_pos site.offset_add_width_le)

end Sys2Proof.Machine

/-! The invariant and what a call returns (R28, R30, R140). -/

namespace Sys2Proof.Machine

/-- A call returns one value. -/
theorem returnOutput_inj {o p : Output} {s : State} (h : returnOutput o s = returnOutput p s) : o = p := by
  simpa using (congrArg State.output (returnOutput_next h)).symm

/-- The value a call returns is in the range of its kind. -/
theorem inRange_of_perform {c : Call} {o : Output} {s : State} (h : perform c s = returnOutput o s) : o.InRange := by
  cases c with
  | pack site v =>
    obtain rfl := returnOutput_inj h
    exact pack_site_lt site v
  | select code bus =>
    rcases hf : formatOfCode code with _ | f
    · simp [perform, hf, returnOutput] at h
    · simp only [perform, hf] at h
      obtain rfl := returnOutput_inj h
      trivial
  | instr i =>
    obtain rfl := returnOutput_inj ((exec_eq_returnWord i s).symm.trans h)
    trivial
  | _ =>
    obtain rfl := returnOutput_inj h
    trivial

/-- Replacing the output by none or by a value in range keeps the invariant. -/
theorem State.Inv.setOutput {s : State} (hs : s.Inv) {o : Option Output} (ho : ∀ v ∈ o, v.InRange) :
    (s.setOutput o).Inv := ⟨hs.1, ho⟩

/-- Taking the next call from the input keeps the invariant. -/
theorem State.Inv.setCalls_tail {s : State} (hs : s.Inv) {c : Call} {rest : List Call} (hc : s.calls = c :: rest) :
    (s.setCalls rest).Inv := ⟨fun d hd => hs.1 d (hc ▸ List.mem_cons_of_mem c hd), hs.2⟩

end Sys2Proof.Machine

namespace Sys2Proof.Proofs
open Machine

/-- Settles O50: a step clears the output or serves the next call, and the value a call returns is in range. -/
theorem stepKeepsTheInvariant : Obligations.StepKeepsTheInvariant := by
  intro s t hs hstep
  obtain ⟨-, rfl⟩ | ⟨c, rest, o, hc, ho, rfl⟩ := step_cases hstep
  · exact hs.setOutput (by simp)
  · refine (hs.setCalls_tail hc).setOutput fun v hv => ?_
    obtain rfl := Option.some_inj.mp hv
    exact inRange_of_perform (ho s)

end Sys2Proof.Proofs

/-! The entry points (R20 to R25, R27): the call served is the one at the head. -/

namespace Sys2Proof.Machine

/-- A step from a state with a call at the head of its list serves that call. -/
theorem step_cons (c : Call) (rest : List Call) (o : Option Output) :
    step ⟨c :: rest, o⟩ = perform c ⟨rest, o⟩ := step_of_call rfl

/-- A call whose value is `v` leaves the calls after it and puts `v` at the output. -/
theorem step_cons_of_perform {c : Call} {v : Output} (h : ∀ s, perform c s = returnOutput v s) (rest : List Call)
    (o : Option Output) : step ⟨c :: rest, o⟩ = .next ⟨rest, some v⟩ :=
  (step_cons c rest o).trans (h _)

/-- An entry point that makes the request `r` and the dispatch of `r` return the same word (R27). -/
theorem step_entry_and_dispatch {c : Call} (r : EncodeRequest)
    (h : ∀ s, perform c s = returnWord (encodeRequest r) s) (rest : List Call) (o : Option Output) :
    step ⟨c :: rest, o⟩ = .next ⟨rest, some (.word (encodeRequest r))⟩ ∧
      step ⟨.encode r :: rest, o⟩ = .next ⟨rest, some (.word (encodeRequest r))⟩ :=
  ⟨step_cons_of_perform h rest o, step_cons_of_perform (fun _ => rfl) rest o⟩

end Sys2Proof.Machine

namespace Sys2Proof.Proofs
open Machine

/-- Settles O7: each entry point and the dispatch of its variant return the encoder's word, which is the layout's. -/
theorem entryPointsReturnFormatWords : Obligations.EntryPointsReturnFormatWords := by
  refine fun rest o => ⟨fun f7 rs2 rs1 f3 rd op => ?_, fun imm rs1 f3 rd op => ?_, fun imm rs2 rs1 f3 op => ?_,
    fun imm rs2 rs1 f3 op => ?_, fun imm rd op => ?_, fun imm rd op => ?_⟩
  · rw [← encodeR_eq_wordR]
    exact step_entry_and_dispatch (.R f7 rs2 rs1 f3 rd op) (fun _ => rfl) rest o
  · rw [← encodeI_eq_wordI]
    exact step_entry_and_dispatch (.I imm rs1 f3 rd op) (fun _ => rfl) rest o
  · rw [← encodeS_eq_wordS]
    exact step_entry_and_dispatch (.S imm rs2 rs1 f3 op) (fun _ => rfl) rest o
  · rw [← encodeB_eq_wordB]
    exact step_entry_and_dispatch (.B imm rs2 rs1 f3 op) (fun _ => rfl) rest o
  · rw [← encodeU_eq_wordU]
    exact step_entry_and_dispatch (.U imm rd op) (fun _ => rfl) rest o
  · rw [← encodeJ_eq_wordJ]
    exact step_entry_and_dispatch (.J imm rd op) (fun _ => rfl) rest o

end Sys2Proof.Proofs

/-! The shift immediate (R26, R56, R99). -/

namespace Sys2Proof.Machine

/-- The shift immediate is funct7's seven bits above shamt's five. -/
theorem shiftImm_eq_toNat_append (f7 shamt : Int) :
    shiftImm f7 shamt = (BitVec.ofInt 7 f7 ++ BitVec.ofInt 5 shamt).toNat := by
  rw [shiftImm, pack_eq, pack_eq, BitVec.toNat_append, Nat.shiftLeft_zero]

/-- The two parts do not overlap, so the shift immediate is their sum. -/
theorem shiftImm_eq_zext_add (f7 shamt : Int) : (shiftImm f7 shamt : Int) = zext 7 f7 * 32 + zext 5 shamt := by
  rw [shiftImm_eq_toNat_append, BitVec.toNat_append, ← Nat.shiftLeft_add_eq_or_of_lt (BitVec.isLt _), zext_eq_ofInt,
    zext_eq_ofInt, Nat.shiftLeft_eq]
  norm_cast

/-- The shift immediate depends on funct7 modulo 128 and on shamt modulo 32 only. -/
theorem shiftImm_add (f7 shamt j k : Int) : shiftImm (f7 + 128 * j) (shamt + 32 * k) = shiftImm f7 shamt :=
  congrArg₂ (· ||| ·) (pack_add_mul_two_pow f7 j 7 5) (pack_index_add shamt k 0)

/-- `shift_imm` returns its two masked parts side by side. -/
theorem perform_shiftImm (f7 shamt : Int) (s : State) :
    perform (.shiftImm f7 shamt) s = returnOutput (.imm12 (BitVec.ofInt 7 f7 ++ BitVec.ofInt 5 shamt)) s := by
  rw [perform, shiftImm_eq_toNat_append, BitVec.ofNat_toNat, BitVec.setWidth_eq]

/-- Through encode_I the shift immediate's parts stand where encode_R has funct7 and rs2 (R56). -/
theorem encodeI_shiftImm (f7 shamt rs1 f3 rd op : Int) :
    encodeI (shiftImm f7 shamt) rs1 f3 rd op = encodeR f7 shamt rs1 f3 rd op := by
  rw [encodeI_eq_wordI, shiftImm_eq_toNat_append, BitVec.ofInt_natCast, BitVec.ofNat_toNat, BitVec.setWidth_eq,
    wordI_shift_eq_wordR, encodeR_eq_wordR]

/-- A bit of an integer as the one-bit field it is. -/
theorem bitOf_eq_extractLsb' (v : Int) (i n : Nat) (h : i < n) :
    bitOf v i = (((BitVec.ofInt n v).extractLsb' i 1).toNat : Int) := by
  have hbit : bitOf v i = zext 1 (v >>> i) := by
    rw [bitOf, zext, Int.shiftRight_eq_div_pow]
    norm_cast
  rw [hbit, zext_eq_ofInt, ofInt_shiftRight 1 n i v (by omega)]

/-- A range of a field is a range of the word. -/
theorem extractLsb'_extractLsb'_of_add_le {W n lo i m : Nat} (x : BitVec W) (h : i + m ≤ n) :
    (x.extractLsb' lo n).extractLsb' i m = x.extractLsb' (lo + i) m := by
  apply BitVec.eq_of_getLsbD_eq
  intro j hj
  simp only [BitVec.getLsbD_extractLsb', hj, show i + j < n by omega, decide_true, Bool.true_and, Nat.add_assoc]

/-- A range of the word that holds a masked integer, read as an integer. -/
theorem wordBits_eq_zext {w : Word} {hi lo : Nat} {v : Int}
    (h : w.extractLsb' lo (hi - lo + 1) = BitVec.ofInt (hi - lo + 1) v) : wordBits w hi lo = zext (hi - lo + 1) v := by
  rw [wordBits, h, zext_eq_ofInt]

end Sys2Proof.Machine

/-! The register fields of an encoder's word, and funct7 of encode_R's (R12, R45 to R50). -/

namespace Sys2Proof.Machine

theorem encodeR_registers (f7 rs2 rs1 f3 rd op : Int) :
    rdOf (encodeR f7 rs2 rs1 f3 rd op) = zext 5 rd ∧ rs1Of (encodeR f7 rs2 rs1 f3 rd op) = zext 5 rs1 ∧
      rs2Of (encodeR f7 rs2 rs1 f3 rd op) = zext 5 rs2 := by
  rw [encodeR_eq_wordR]
  obtain ⟨-, hrs2, hrs1, -, hrd, -⟩ :=
    wordR_fields (BitVec.ofInt 7 f7) rs2 rs1 (BitVec.ofInt 3 f3) rd (BitVec.ofInt 7 op)
  exact ⟨wordBits_eq_zext hrd, wordBits_eq_zext hrs1, wordBits_eq_zext hrs2⟩

theorem encodeI_registers (imm rs1 f3 rd op : Int) :
    rdOf (encodeI imm rs1 f3 rd op) = zext 5 rd ∧ rs1Of (encodeI imm rs1 f3 rd op) = zext 5 rs1 := by
  rw [encodeI_eq_wordI]
  obtain ⟨-, hrs1, -, hrd, -⟩ := wordI_fields (BitVec.ofInt 12 imm) rs1 (BitVec.ofInt 3 f3) rd (BitVec.ofInt 7 op)
  exact ⟨wordBits_eq_zext hrd, wordBits_eq_zext hrs1⟩

theorem encodeS_registers (imm rs2 rs1 f3 op : Int) :
    rs1Of (encodeS imm rs2 rs1 f3 op) = zext 5 rs1 ∧ rs2Of (encodeS imm rs2 rs1 f3 op) = zext 5 rs2 := by
  rw [encodeS_eq_wordS]
  obtain ⟨-, hrs2, hrs1, -⟩ := wordS_fields (BitVec.ofInt 12 imm) rs2 rs1 (BitVec.ofInt 3 f3) (BitVec.ofInt 7 op)
  exact ⟨wordBits_eq_zext hrs1, wordBits_eq_zext hrs2⟩

theorem encodeB_registers (imm rs2 rs1 f3 op : Int) :
    rs1Of (encodeB imm rs2 rs1 f3 op) = zext 5 rs1 ∧ rs2Of (encodeB imm rs2 rs1 f3 op) = zext 5 rs2 := by
  rw [encodeB_eq_wordB]
  obtain ⟨-, -, hrs2, hrs1, -⟩ := wordB_fields (BitVec.ofInt 13 imm) rs2 rs1 (BitVec.ofInt 3 f3) (BitVec.ofInt 7 op)
  exact ⟨wordBits_eq_zext hrs1, wordBits_eq_zext hrs2⟩

theorem encodeU_register (imm rd op : Int) : rdOf (encodeU imm rd op) = zext 5 rd := by
  rw [encodeU_eq_wordU]
  obtain ⟨-, hrd, -⟩ := wordU_fields (BitVec.ofInt 20 imm) rd (BitVec.ofInt 7 op)
  exact wordBits_eq_zext hrd

theorem encodeJ_register (imm rd op : Int) : rdOf (encodeJ imm rd op) = zext 5 rd := by
  rw [encodeJ_eq_wordJ]
  obtain ⟨-, -, -, -, hrd, -⟩ := wordJ_fields (BitVec.ofInt 21 imm) rd (BitVec.ofInt 7 op)
  exact wordBits_eq_zext hrd

/-- funct7 of an encode_R word, whole and its bit 5 alone, which is the word's bit 30. -/
theorem encodeR_funct7 (f7 rs2 rs1 f3 rd op : Int) :
    funct7Of (encodeR f7 rs2 rs1 f3 rd op) = zext 7 f7 ∧
      wordBits (encodeR f7 rs2 rs1 f3 rd op) 30 30 = bitOf f7 5 := by
  rw [encodeR_eq_wordR]
  obtain ⟨hf7, -⟩ := wordR_fields (BitVec.ofInt 7 f7) rs2 rs1 (BitVec.ofInt 3 f3) rd (BitVec.ofInt 7 op)
  refine ⟨wordBits_eq_zext hf7, ?_⟩
  generalize wordR _ _ _ _ _ _ = w at hf7 ⊢
  rw [bitOf_eq_extractLsb' f7 5 7 (by decide), ← hf7, extractLsb'_extractLsb'_of_add_le w (by decide)]
  rfl

end Sys2Proof.Machine

namespace Sys2Proof.Proofs
open Machine

/-- Settles O17: the shift immediate is two masked fields side by side, and its I word is the R word with shamt
as rs2. -/
theorem shiftImmediateIsComposedMasked : Obligations.ShiftImmediateIsComposedMasked := by
  refine ⟨fun f7 shamt rest o => ⟨?_, rfl, ?_, shiftImm_eq_zext_add f7 shamt⟩, shiftImm_add, fun f s hf hs => ?_,
    fun f7 shamt rs1 f3 rd op => ?_, fun f7 => ⟨?_, ?_⟩, rfl⟩
  · exact step_cons_of_perform (perform_shiftImm f7 shamt) rest o
  · rw [shiftImm_eq_toNat_append]
    exact BitVec.isLt _
  · rw [shiftImm, pack_natCast_of_lt 5 hf, pack_natCast_of_lt 0 hs, Nat.shiftLeft_zero]
  · rw [encodeI_shiftImm]
    obtain ⟨-, -, hshamt⟩ := encodeR_registers f7 shamt rs1 f3 rd op
    exact ⟨hshamt, encodeR_funct7 f7 shamt rs1 f3 rd op⟩
  · simpa using shiftImm_add f7 0 0 1
  · simpa using shiftImm_add f7 31 0 (-1)

/-- Settles O32: every register index is packed in five bits, and every register field reads back as those bits. -/
theorem registerIndicesAreMasked : Obligations.RegisterIndicesAreMasked := by
  refine ⟨fun f7 rs2 rs1 f3 rd op imm a b c => ?_, fun r p hp f7 x y f3 op imm => ?_⟩
  · simp only [encodeR, encodeI, encodeS, encodeB, encodeU, encodeJ, pack_index_add, and_self]
  · have hmasked : p.2 = zext 5 p.1 := by
      simp only [List.mem_cons, List.not_mem_nil, or_false] at hp
      obtain rfl | rfl | rfl | rfl := hp <;> rfl
    simp [hmasked, encodeR_registers, encodeI_registers, encodeS_registers, encodeB_registers, encodeU_register,
      encodeJ_register]

end Sys2Proof.Proofs

/-! Select codes (R30). -/

namespace Sys2Proof.Machine

/-- No format is found for exactly the codes `SEL_ENCODING` assigns to none. -/
theorem formatOfCode_eq_none_iff (code : Nat) :
    formatOfCode code = none ↔ ∀ f, Config.selEncoding.code f ≠ code := by
  simp only [formatOfCode, List.find?_eq_none, beq_iff_eq]
  exact ⟨fun h f => h f (by cases f <;> decide), fun h f _ => h f⟩

/-- A format is found under its own code: the codes are injective. -/
theorem formatOfCode_code (f : Format) : formatOfCode (Config.selEncoding.code f) = some f := by
  rcases hg : formatOfCode (Config.selEncoding.code f) with _ | g
  · exact absurd rfl ((formatOfCode_eq_none_iff _).mp hg f)
  · have hcode : Config.selEncoding.code g = Config.selEncoding.code f := by simpa using List.find?_some hg
    rw [Config.selEncoding.injective hcode]

/-- The request the bus makes in a format is of that format. -/
theorem FieldBus.request_format (bus : FieldBus) (f : Format) : (bus.request f).format = f := by cases f <;> rfl

end Sys2Proof.Machine

namespace Sys2Proof.Proofs
open Machine

/-- Settles O35: what a call returns or refuses is fixed by the call, by cases on what a call can do. -/
theorem oneCallIsOneTransition : Obligations.OneCallIsOneTransition := by
  intro c rest rest' o o'
  obtain ⟨v, hv⟩ | ⟨code, bus, hc, hnone, hrefused⟩ := perform_cases c
  · exact .inl ⟨v, step_cons_of_perform hv rest o, step_cons_of_perform hv rest' o'⟩
  · refine .inr ⟨code, bus, hc, (formatOfCode_eq_none_iff code).mp hnone, ?_, ?_⟩
    · exact (step_cons c rest o).trans (hrefused _)
    · exact (step_cons c rest' o').trans (hrefused _)

/-- Settles O37: a mnemonic's call returns a word that is the same from every state. -/
theorem mnemonicCallsChangeOnlyTheOutput : Obligations.MnemonicCallsChangeOnlyTheOutput := by
  intro i s t h
  obtain ⟨w, hw⟩ := exec_returns i
  obtain rfl := returnWord_next ((hw s).symm.trans h)
  exact ⟨rfl, w, rfl, hw⟩

/-- Settles O39: a format's code finds the format, and a code of no format finds none. -/
theorem selectCodesChooseTheFormatOrAreRefused : Obligations.SelectCodesChooseTheFormatOrAreRefused := by
  refine ⟨fun f bus rest o => ⟨?_, bus.request_format f⟩, fun code bus rest o hcode => ?_⟩
  · exact step_cons_of_perform (fun s => by simp only [perform, formatOfCode_code, returnWord]) rest o
  · simp only [step_cons, perform, (formatOfCode_eq_none_iff code).mpr hcode]

end Sys2Proof.Proofs

/-! Table words as the host presents them (R33, log entry 4). -/

namespace Sys2Proof
open Machine

/-- The four bytes of a word make the word again. -/
theorem wordOfBytes_wordByte (w : Word) :
    wordOfBytes (wordByte w 0) (wordByte w 1) (wordByte w 2) (wordByte w 3) = w := by
  rw [wordOfBytes, wordByte, wordByte, wordByte, wordByte,
    BitVec.extractLsb'_append_extractLsb'_eq_extractLsb' (by decide),
    BitVec.extractLsb'_append_extractLsb'_eq_extractLsb' (by decide),
    BitVec.extractLsb'_append_extractLsb'_eq_extractLsb' (by decide)]
  exact BitVec.extractLsb'_eq_self

/-- The table word of a whole word is the word. -/
theorem tableWord_toNat (w : Word) : tableWord 32 w.toNat = w := by
  rw [tableWord, Nat.mod_eq_of_lt w.isLt, BitVec.ofNat_toNat, BitVec.setWidth_eq]

/-- The table decoder reads from a 32-bit word what the word decoder reads. -/
theorem decodeTableWord_toNat {w : Word} {i : Instr} (h : decodeWord w = .ok i) :
    decodeTableWord 32 w.toNat = some i := by
  simp only [decodeTableWord, tableWord_toNat, wordBytes, decode, wordOfBytes_wordByte, h]

end Sys2Proof

namespace Sys2Proof.Machine

/-- A table word that decodes is presented as the call of the instruction it decodes to. -/
theorem tableCall_of_decode {nbits w : Nat} {i : Instr} (h : decodeTableWord nbits w = some i) :
    tableCall nbits w = .instr i := by
  simp only [tableCall, h]

end Sys2Proof.Machine

namespace Sys2Proof.Proofs
open Machine

/-- Settles O48: the call served is the head of the list, and a table word that decodes is put there as its mnemonic's
call. -/
theorem stepRunsTheDecodedInstruction : Obligations.StepRunsTheDecodedInstruction := by
  have hpresented (s : State) (nbits w : Nat) (i : Instr) (h : decodeTableWord nbits w = some i) :
      step (s.withFetchWord nbits w) = exec i s := by
    rw [step_withFetchWord, tableCall_of_decode h]
    rfl
  exact ⟨fun i s rest h => step_of_call h, hpresented, fun s w i h => hpresented s 32 _ i (decodeTableWord_toNat h)⟩

end Sys2Proof.Proofs

/-! A list of calls, served one after the other (R28, R37). -/

namespace Sys2Proof.Machine

/-- A call that is no select call with an unassigned code returns a value that the state does not enter. -/
theorem Call.Assigned.perform_returns {c : Call} (hc : c.Assigned) : ∃ v, ∀ s, perform c s = returnOutput v s := by
  obtain hreturns | ⟨code, bus, rfl, hnone, -⟩ := perform_cases c
  · exact hreturns
  · obtain ⟨f, hf⟩ := hc
    exact absurd hf ((formatOfCode_eq_none_iff code).mp hnone f)

/-- The value of the call at the head is the first one handed over; the last output is not. -/
theorem outputs_cons_of_perform {c : Call} {v : Output} (h : ∀ s, perform c s = returnOutput v s) (n : Nat)
    (rest : List Call) (o : Option Output) : outputs (n + 1) ⟨c :: rest, o⟩ = v :: outputs n ⟨rest, some v⟩ := by
  simp [outputs, step_cons_of_perform h]

/-- In a list of calls each hands over what it hands over alone. -/
theorem outputs_eq_flatMap {cs : List Call} (hcs : ∀ c ∈ cs, c.Assigned) (o : Option Output) :
    outputs cs.length ⟨cs, o⟩ = cs.flatMap (fun c => outputs 1 ⟨[c], none⟩) := by
  induction cs generalizing o with
  | nil => rfl
  | cons c cs ih =>
    obtain ⟨hc, hcs⟩ := List.forall_mem_cons.mp hcs
    obtain ⟨v, hv⟩ := hc.perform_returns
    rw [List.length_cons, outputs_cons_of_perform hv, ih hcs, List.flatMap_cons, outputs_cons_of_perform hv]
    rfl

/-- A call alone hands over one value. -/
theorem Call.Assigned.length_outputs_one {c : Call} (hc : c.Assigned) : (outputs 1 ⟨[c], none⟩).length = 1 := by
  obtain ⟨v, hv⟩ := hc.perform_returns
  rw [outputs_cons_of_perform hv]
  rfl

/-- A list of calls hands over one value per call. -/
theorem length_outputs {cs : List Call} (hcs : ∀ c ∈ cs, c.Assigned) (o : Option Output) :
    (outputs cs.length ⟨cs, o⟩).length = cs.length := by
  have hone : cs.map (fun c => (outputs 1 ⟨[c], none⟩).length) = cs.map fun _ => 1 :=
    List.map_congr_left fun c hc => (hcs c hc).length_outputs_one
  rw [outputs_eq_flatMap hcs, List.length_flatMap, hone, List.map_const', List.sum_replicate_nat, Nat.mul_one]

end Sys2Proof.Machine

namespace Sys2Proof.Proofs
open Machine

/-- Settles O38: the values are those of the calls alone, one after the other, so reordering the calls reorders them. -/
theorem callsGiveTheWordsTheyWouldGiveAlone : Obligations.CallsGiveTheWordsTheyWouldGiveAlone := by
  refine ⟨fun cs o hcs => ⟨outputs_eq_flatMap hcs o, length_outputs hcs o⟩, fun cs ds o o' hperm hcs => ?_⟩
  have hds : ∀ d ∈ ds, d.Assigned := fun d hd => hcs d (hperm.mem_iff.mpr hd)
  rw [outputs_eq_flatMap hcs, outputs_eq_flatMap hds]
  exact hperm.flatMap_right _

end Sys2Proof.Proofs

/-! Words as bytes in memory (R33). -/

namespace Sys2Proof.Machine

/-- The bytes of a word stand in the order of their numbers. -/
theorem wordBytes_getElem? (w : Word) {k : Nat} (hk : k < 4) : (wordBytes w)[k]? = some (wordByte w k) := by
  match k, hk with
  | 0, _ | 1, _ | 2, _ | 3, _ => rfl

/-- Byte `k` is the range `[8k+7:8k]` of the word, read as an integer. -/
theorem toNat_wordByte (w : Word) (k : Nat) : ((wordByte w k).toNat : Int) = wordBits w (8 * k + 7) (8 * k) := by
  rw [wordBits, show 8 * k + 7 - 8 * k + 1 = 8 by omega, wordByte]

/-- Two consecutive bytes are a range of 16 bits. -/
theorem wordByte_append_wordByte (w : Word) (k : Nat) :
    wordByte w (k + 1) ++ wordByte w k = w.extractLsb' (8 * k) 16 :=
  BitVec.extractLsb'_append_extractLsb'_eq_extractLsb' (by omega)

/-- Each word takes four bytes of the image, so word `j` begins at byte `4 * j`. -/
theorem image_getElem? (ws : List Word) (j : Nat) {k : Nat} (hk : k < 4) :
    (image ws)[4 * j + k]? = ws[j]?.map (fun w => wordByte w k) := by
  induction ws generalizing j with
  | nil => simp [image]
  | cons w ws ih =>
    have hcons : image (w :: ws) = wordBytes w ++ image ws := List.flatMap_cons
    cases j with
    | zero =>
      rw [hcons, Nat.mul_zero, Nat.zero_add, List.getElem?_append_left hk, wordBytes_getElem? w hk]
      rfl
    | succ j =>
      have hskip : 4 * (j + 1) + k = (wordBytes w).length + (4 * j + k) := by
        rw [show (wordBytes w).length = 4 from rfl]
        omega
      rw [hcons, hskip, List.getElem?_append_right (Nat.le_add_right _ _), Nat.add_sub_cancel_left, ih]
      rfl

end Sys2Proof.Machine

namespace Sys2Proof.Proofs
open Machine

/-- Settles O40: a word's bytes are its ranges of eight bits in order, and the image puts one word's four bytes after
the other's. -/
theorem wordsAreSerialisedLittleEndian : Obligations.WordsAreSerialisedLittleEndian := by
  refine ⟨fun w => ⟨rfl, fun k hk => ?_, ?_, ?_, wordOfBytes_wordByte w⟩, fun ws j k hk => image_getElem? ws j hk⟩
  · exact ⟨wordByte w k, wordBytes_getElem? w hk, toNat_wordByte w k⟩
  · exact wordByte_append_wordByte w 0
  · exact wordByte_append_wordByte w 2

end Sys2Proof.Proofs

/-! What each extractor of R57 reads, as the bits of the word. -/

namespace Sys2Proof.Machine

/-- The integer a range of the word holds, cut to the width of the range, is the range. -/
theorem ofInt_wordBits (w : Word) (hi lo : Nat) :
    BitVec.ofInt (hi - lo + 1) (wordBits w hi lo) = w.extractLsb' lo (hi - lo + 1) := by
  rw [wordBits, BitVec.ofInt_natCast, BitVec.ofNat_toNat, BitVec.setWidth_eq]

/-- Cutting an integer to `n` bits sees no sign extension from `n` bits. -/
theorem ofInt_sext (n : Nat) (v : Int) (hn : 0 < n) : BitVec.ofInt n (sext n v) = BitVec.ofInt n v := by
  rw [sext_eq_ofInt n v hn, BitVec.ofInt_toInt]

/-- The sign-extended value of `n` bits, cut to `n` bits, is those bits. -/
theorem ofInt_sext_toNat {n : Nat} (x : BitVec n) (hn : 0 < n) : BitVec.ofInt n (sext n (x.toNat : Int)) = x := by
  rw [sext_toNat n x hn, BitVec.ofInt_toInt]

end Sys2Proof.Machine

namespace Sys2Proof
open Machine

@[simp] theorem ofInt_opcodeOf (w : Word) : BitVec.ofInt 7 (opcodeOf w) = w.extractLsb' 0 7 := ofInt_wordBits w 6 0
@[simp] theorem ofInt_rdOf (w : Word) : BitVec.ofInt 5 (rdOf w) = w.extractLsb' 7 5 := ofInt_wordBits w 11 7
@[simp] theorem ofInt_funct3Of (w : Word) : BitVec.ofInt 3 (funct3Of w) = w.extractLsb' 12 3 := ofInt_wordBits w 14 12
@[simp] theorem ofInt_rs1Of (w : Word) : BitVec.ofInt 5 (rs1Of w) = w.extractLsb' 15 5 := ofInt_wordBits w 19 15
@[simp] theorem ofInt_rs2Of (w : Word) : BitVec.ofInt 5 (rs2Of w) = w.extractLsb' 20 5 := ofInt_wordBits w 24 20
@[simp] theorem ofInt_funct7Of (w : Word) : BitVec.ofInt 7 (funct7Of w) = w.extractLsb' 25 7 := ofInt_wordBits w 31 25
@[simp] theorem ofInt_immUOf (w : Word) : BitVec.ofInt 20 (immUOf w) = w.extractLsb' 12 20 := ofInt_wordBits w 31 12
@[simp] theorem ofInt_fmOf (w : Word) : BitVec.ofInt 4 (fmOf w) = w.extractLsb' 28 4 := ofInt_wordBits w 31 28
@[simp] theorem ofInt_predOf (w : Word) : BitVec.ofInt 4 (predOf w) = w.extractLsb' 24 4 := ofInt_wordBits w 27 24
@[simp] theorem ofInt_succOf (w : Word) : BitVec.ofInt 4 (succOf w) = w.extractLsb' 20 4 := ofInt_wordBits w 23 20
@[simp] theorem ofInt_immIOf (w : Word) : BitVec.ofInt 12 (immIOf w) = w.extractLsb' 20 12 :=
  ofInt_sext_toNat (w.extractLsb' 20 12) (by decide)
@[simp] theorem ofInt_immSOf (w : Word) : BitVec.ofInt 12 (immSOf w) = w.extractLsb' 25 7 ++ w.extractLsb' 7 5 :=
  ofInt_sext_toNat (w.extractLsb' 25 7 ++ w.extractLsb' 7 5) (by decide)
@[simp] theorem ofInt_immBOf (w : Word) : BitVec.ofInt 13 (immBOf w) =
    w.extractLsb' 31 1 ++ w.extractLsb' 7 1 ++ w.extractLsb' 25 6 ++ w.extractLsb' 8 4 ++ 0#1 :=
  ofInt_sext_toNat (w.extractLsb' 31 1 ++ w.extractLsb' 7 1 ++ w.extractLsb' 25 6 ++ w.extractLsb' 8 4 ++ 0#1)
    (by decide)
@[simp] theorem ofInt_immJOf (w : Word) : BitVec.ofInt 21 (immJOf w) =
    w.extractLsb' 31 1 ++ w.extractLsb' 12 8 ++ w.extractLsb' 20 1 ++ w.extractLsb' 21 10 ++ 0#1 :=
  ofInt_sext_toNat (w.extractLsb' 31 1 ++ w.extractLsb' 12 8 ++ w.extractLsb' 20 1 ++ w.extractLsb' 21 10 ++ 0#1)
    (by decide)

/-! A word is the table word of its own fields, in each format. -/

section
variable {w : Word} {f7 : BitVec 7} {f3 : BitVec 3} {op : BitVec 7}

theorem wordR_of_fields (hf7 : w.extractLsb' 25 7 = f7) (hf3 : w.extractLsb' 12 3 = f3)
    (hop : w.extractLsb' 0 7 = op) : wordR f7 (rs2Of w) (rs1Of w) f3 (rdOf w) op = w := by
  subst hf7 hf3 hop
  simp (disch := omega) only [wordR, ofInt_rs2Of, ofInt_rs1Of, ofInt_rdOf,
    BitVec.extractLsb'_append_extractLsb'_eq_extractLsb']
  exact BitVec.extractLsb'_eq_self

theorem wordI_of_fields (hf3 : w.extractLsb' 12 3 = f3) (hop : w.extractLsb' 0 7 = op) :
    wordI (BitVec.ofInt 12 (immIOf w)) (rs1Of w) f3 (rdOf w) op = w := by
  subst hf3 hop
  simp (disch := omega) only [wordI, ofInt_immIOf, ofInt_rs1Of, ofInt_rdOf,
    BitVec.extractLsb'_append_extractLsb'_eq_extractLsb']
  exact BitVec.extractLsb'_eq_self

theorem wordS_of_fields (hf3 : w.extractLsb' 12 3 = f3) (hop : w.extractLsb' 0 7 = op) :
    wordS (BitVec.ofInt 12 (immSOf w)) (rs2Of w) (rs1Of w) f3 op = w := by
  subst hf3 hop
  simp (disch := omega) only [wordS, ofInt_immSOf, ofInt_rs2Of, ofInt_rs1Of,
    BitVec.extractLsb'_append_eq_of_add_le, BitVec.extractLsb'_append_eq_of_le, Nat.reduceSub,
    BitVec.extractLsb'_eq_self, BitVec.extractLsb'_append_extractLsb'_eq_extractLsb']

theorem wordB_of_fields (hf3 : w.extractLsb' 12 3 = f3) (hop : w.extractLsb' 0 7 = op) :
    wordB (BitVec.ofInt 13 (immBOf w)) (rs2Of w) (rs1Of w) f3 op = w := by
  subst hf3 hop
  simp (disch := omega) only [wordB, ofInt_immBOf, ofInt_rs2Of, ofInt_rs1Of,
    BitVec.extractLsb'_append_eq_of_add_le, BitVec.extractLsb'_append_eq_of_le, Nat.reduceSub,
    BitVec.extractLsb'_eq_self, BitVec.extractLsb'_append_extractLsb'_eq_extractLsb']

theorem wordU_of_fields (hop : w.extractLsb' 0 7 = op) : wordU (BitVec.ofInt 20 (immUOf w)) (rdOf w) op = w := by
  subst hop
  simp (disch := omega) only [wordU, ofInt_immUOf, ofInt_rdOf,
    BitVec.extractLsb'_append_extractLsb'_eq_extractLsb']
  exact BitVec.extractLsb'_eq_self

theorem wordJ_of_fields (hop : w.extractLsb' 0 7 = op) : wordJ (BitVec.ofInt 21 (immJOf w)) (rdOf w) op = w := by
  subst hop
  simp (disch := omega) only [wordJ, ofInt_immJOf, ofInt_rdOf,
    BitVec.extractLsb'_append_eq_of_add_le, BitVec.extractLsb'_append_eq_of_le, Nat.reduceSub,
    BitVec.extractLsb'_eq_self, BitVec.extractLsb'_append_extractLsb'_eq_extractLsb']

end
end Sys2Proof

/-! The operands of a table word, read back by the extractors of R57. -/

namespace Sys2Proof
open Machine

theorem shamtOf_eq_rs2Of (w : Word) : shamtOf w = rs2Of w := rfl

theorem wordR_operands (f7 : BitVec 7) (rs2 rs1 : Int) (f3 : BitVec 3) (rd : Int) (op : BitVec 7) :
    rdOf (wordR f7 rs2 rs1 f3 rd op) = zext 5 rd ∧ rs1Of (wordR f7 rs2 rs1 f3 rd op) = zext 5 rs1 ∧
      rs2Of (wordR f7 rs2 rs1 f3 rd op) = zext 5 rs2 := by
  obtain ⟨-, hrs2, hrs1, -, hrd, -⟩ := wordR_fields f7 rs2 rs1 f3 rd op
  exact ⟨wordBits_eq_zext hrd, wordBits_eq_zext hrs1, wordBits_eq_zext hrs2⟩

theorem wordI_operands (imm rs1 : Int) (f3 : BitVec 3) (rd : Int) (op : BitVec 7) :
    let w := wordI (BitVec.ofInt 12 imm) rs1 f3 rd op
    rdOf w = zext 5 rd ∧ rs1Of w = zext 5 rs1 ∧ immIOf w = sext 12 imm := by
  obtain ⟨himm, hrs1, -, hrd, -⟩ := wordI_fields (BitVec.ofInt 12 imm) rs1 f3 rd op
  refine ⟨wordBits_eq_zext hrd, wordBits_eq_zext hrs1, ?_⟩
  calc immIOf (wordI (BitVec.ofInt 12 imm) rs1 f3 rd op)
      = sext 12 ((BitVec.ofInt 12 imm).toNat : Int) := congrArg (fun x : BitVec 12 => sext 12 (x.toNat : Int)) himm
    _ = sext 12 imm := by rw [sext_toNat 12 _ (by decide), sext_eq_ofInt 12 imm (by decide)]

theorem wordS_operands (imm rs2 rs1 : Int) (f3 : BitVec 3) (op : BitVec 7) :
    let w := wordS (BitVec.ofInt 12 imm) rs2 rs1 f3 op
    rs2Of w = zext 5 rs2 ∧ rs1Of w = zext 5 rs1 ∧ immSOf w = sext 12 imm := by
  obtain ⟨hhi, hrs2, hrs1, -, hlo, -⟩ := wordS_fields (BitVec.ofInt 12 imm) rs2 rs1 f3 op
  refine ⟨wordBits_eq_zext hrs2, wordBits_eq_zext hrs1, ?_⟩
  rw [immSOf, hhi, hlo, BitVec.extractLsb'_append_extractLsb'_eq_extractLsb' (by decide), BitVec.extractLsb'_eq_self,
    sext_toNat 12 _ (by decide), sext_eq_ofInt 12 imm (by decide)]

theorem wordB_operands (imm rs2 rs1 : Int) (f3 : BitVec 3) (op : BitVec 7) :
    let w := wordB (BitVec.ofInt 13 imm) rs2 rs1 f3 op
    rs1Of w = zext 5 rs1 ∧ rs2Of w = zext 5 rs2 ∧ immBOf w = maskedB imm := by
  obtain ⟨h12, h10, hrs2, hrs1, -, h4, h11, -⟩ := wordB_fields (BitVec.ofInt 13 imm) rs2 rs1 f3 op
  refine ⟨wordBits_eq_zext hrs1, wordBits_eq_zext hrs2, ?_⟩
  rw [maskedB, sext_sub_zext_one 13 imm (by decide), immBOf, h12, h10, h4, h11]
  simp (disch := omega) only [BitVec.extractLsb'_append_extractLsb'_eq_extractLsb']

theorem wordU_operands (imm rd : Int) (op : BitVec 7) :
    rdOf (wordU (BitVec.ofInt 20 imm) rd op) = zext 5 rd ∧
      immUOf (wordU (BitVec.ofInt 20 imm) rd op) = zext 20 imm := by
  obtain ⟨himm, hrd, -⟩ := wordU_fields (BitVec.ofInt 20 imm) rd op
  exact ⟨wordBits_eq_zext hrd, wordBits_eq_zext himm⟩

theorem wordJ_operands (imm rd : Int) (op : BitVec 7) :
    rdOf (wordJ (BitVec.ofInt 21 imm) rd op) = zext 5 rd ∧
      immJOf (wordJ (BitVec.ofInt 21 imm) rd op) = maskedJ imm := by
  obtain ⟨h20, h10, h11, h19, hrd, -⟩ := wordJ_fields (BitVec.ofInt 21 imm) rd op
  refine ⟨wordBits_eq_zext hrd, ?_⟩
  rw [maskedJ, sext_sub_zext_one 21 imm (by decide), immJOf, h20, h10, h11, h19]
  simp (disch := omega) only [BitVec.extractLsb'_append_extractLsb'_eq_extractLsb']

theorem fence_operands (fm pred succ rs1 : Int) (f3 : BitVec 3) (rd : Int) (op : BitVec 7) :
    let w := wordI (BitVec.ofInt 4 fm ++ BitVec.ofInt 4 pred ++ BitVec.ofInt 4 succ) rs1 f3 rd op
    fmOf w = zext 4 fm ∧ predOf w = zext 4 pred ∧ succOf w = zext 4 succ := by
  intro w
  obtain ⟨himm, -⟩ :=
    wordI_fields (BitVec.ofInt 4 fm ++ BitVec.ofInt 4 pred ++ BitVec.ofInt 4 succ) rs1 f3 rd op
  have hpart (k : Nat) (hk : k + 4 ≤ 12) : w.extractLsb' (20 + k) 4 =
      (BitVec.ofInt 4 fm ++ BitVec.ofInt 4 pred ++ BitVec.ofInt 4 succ).extractLsb' k 4 := by
    rw [← himm, extractLsb'_extractLsb'_of_add_le _ hk]
  refine ⟨wordBits_eq_zext ((hpart 8 (by decide)).trans ?_), wordBits_eq_zext ((hpart 4 (by decide)).trans ?_),
    wordBits_eq_zext ((hpart 0 (by decide)).trans ?_)⟩
  all_goals simp (disch := omega) only [BitVec.extractLsb'_append_eq_of_le, BitVec.extractLsb'_append_eq_of_add_le,
    Nat.reduceSub, BitVec.extractLsb'_eq_self]

/-- Decoding the table word of an instruction gives the instruction with its operands masked (R58). -/
theorem decodeWord_encode (i : Instr) : decodeWord (encode i) = .ok i.masked := by
  cases i with
  | add | sub | sll | slt | sltu | xor | srl | sra | or | and =>
    simp [encode, decodeWord, decodeOp, wordR_fields, wordR_operands, Instr.masked]
  | addi | slti | sltiu | xori | ori | andi =>
    simp [encode, decodeWord, decodeOpImm, wordI_fields, wordI_operands, Instr.masked]
  | slli | srli | srai =>
    simp [encode, decodeWord, decodeOpImm, wordI_shift_eq_wordR, wordR_fields, wordR_operands, shamtOf_eq_rs2Of,
      Instr.masked]
  | lb | lh | lw | lbu | lhu =>
    simp [encode, decodeWord, decodeLoad, wordI_fields, wordI_operands, Instr.masked]
  | jalr => simp [encode, decodeWord, decodeJalr, wordI_fields, wordI_operands, Instr.masked]
  | sb | sh | sw => simp [encode, decodeWord, decodeStore, wordS_fields, wordS_operands, Instr.masked]
  | beq | bne | blt | bge | bltu | bgeu =>
    simp [encode, decodeWord, decodeBranch, wordB_fields, wordB_operands, Instr.masked]
  | lui | auipc => simp [encode, decodeWord, wordU_fields, wordU_operands, Instr.masked]
  | jal => simp [encode, decodeWord, wordJ_fields, wordJ_operands, Instr.masked]
  | fence => simp [encode, decodeWord, decodeMiscMem, wordI_fields, fence_operands, Instr.masked]
  | ecall | ebreak => decide

end Sys2Proof

/-! The packers' word of each mnemonic is the table's word (R45 to R50, R65), and its decoding. -/

namespace Sys2Proof.Machine

/-- FENCE's immediate is its three masked sets side by side (R134). -/
theorem fenceImm_eq_toNat_append (fm pred succ : Int) :
    fenceImm fm pred succ = (BitVec.ofInt 4 fm ++ BitVec.ofInt 4 pred ++ BitVec.ofInt 4 succ).toNat := by
  rw [fenceImm, pack_eq, pack_eq, pack_eq, BitVec.toNat_append, BitVec.toNat_append, Nat.shiftLeft_or_distrib,
    ← Nat.shiftLeft_add, Nat.shiftLeft_zero]

/-- The packers' word of each mnemonic's request is the table's word (R45 to R50, R65). -/
theorem encodeRequest_requestOf (i : Instr) : encodeRequest (requestOf i) = encode i := by
  cases i with
  | add | sub | sll | slt | sltu | xor | srl | sra | or | and => exact encodeR_eq_wordR ..
  | addi | slti | sltiu | xori | ori | andi | lb | lh | lw | lbu | lhu | jalr => exact encodeI_eq_wordI ..
  | slli | srli | srai =>
    exact (encodeI_shiftImm ..).trans ((encodeR_eq_wordR ..).trans (wordI_shift_eq_wordR ..).symm)
  | sb | sh | sw => exact encodeS_eq_wordS ..
  | beq | bne | blt | bge | bltu | bgeu => exact encodeB_eq_wordB ..
  | lui | auipc => exact encodeU_eq_wordU ..
  | jal => exact encodeJ_eq_wordJ ..
  | fence fm pred succ =>
    refine (encodeI_eq_wordI ..).trans ?_
    rw [fenceImm_eq_toNat_append, BitVec.ofInt_natCast, BitVec.ofNat_toNat, BitVec.setWidth_eq]
    rfl
  | ecall | ebreak => exact encodeI_eq_wordI ..

/-- Every mnemonic's call returns the table's word. -/
theorem exec_eq_encode (i : Instr) (s : State) : exec i s = .next { s with output := some (.word (encode i)) } := by
  rw [exec_eq_returnWord, encodeRequest_requestOf]
  rfl

end Sys2Proof.Machine

namespace Sys2Proof
open Machine

/-- In its caller's ranges an instruction's word decodes to the instruction itself. -/
theorem decodeWord_encode_of_wellFormed {i : Instr} (hi : i.wellFormed = true) : decodeWord (encode i) = .ok i := by
  rw [decodeWord_encode, i.wellFormed_iff_masked_eq.mp hi]

/-- Four bytes of a word and more bytes decode to what the word decodes to, and leave those bytes. -/
theorem decode_wordBytes {w : Word} {i : Instr} (h : decodeWord w = .ok i) (rest : List Byte) :
    decode (wordBytes w ++ rest) = .ok (i, rest) := by
  simp only [wordBytes, List.cons_append, List.nil_append, decode, wordOfBytes_wordByte, h]

end Sys2Proof

namespace Sys2Proof.Proofs
open Machine

/-- Settles O44: the word decodes to the masked instruction, which for a well-formed one is itself. -/
theorem decodeInvertsEncode : Obligations.DecodeInvertsEncode := by
  intro i rest hi
  have hword := decodeWord_encode_of_wellFormed hi
  exact ⟨hword, decode_wordBytes hword rest⟩

/-- Settles O46: the block returns the table's word, which decodes to the masked instruction. -/
theorem returnedWordReadsBackMasked : Obligations.ReturnedWordReadsBackMasked :=
  fun i s => ⟨encode i, exec_eq_encode i s, decodeWord_encode i, decodeWord_encode_of_wellFormed⟩

end Sys2Proof.Proofs

namespace Sys2Proof.Laws.TableRow

/-- The table's word of every instruction is a word of the instruction's row. -/
theorem holds (i : Instr) : Statement i := by
  cases i <;> simp only [add, sub, sll, slt, sltu, xor, srl, sra, or, and, addi, slti, sltiu, xori, ori, andi, slli,
    srli, srai, lb, lh, lw, lbu, lhu, jalr, sb, sh, sw, beq, bne, blt, bge, bltu, bgeu, lui, auipc, jal, fence, ecall,
    ebreak]

end Sys2Proof.Laws.TableRow

namespace Sys2Proof.Proofs
open Machine

/-- Settles O42: the packers' word is the table's word, which keeps its row's fixed bits. -/
theorem blockReturnsTheTableWord : Obligations.BlockReturnsTheTableWord :=
  fun i s => ⟨exec_eq_encode i s, Laws.TableRow.holds i⟩

end Sys2Proof.Proofs

/-! A word that decodes is the table word of what the decoder read in it (R57, R64, R65). -/

namespace Sys2Proof
open Machine

/-- The one funct3 of OP-IMM left when the other seven are not there: the right shifts'. -/
theorem funct3_eq_five_of_ne {x : BitVec 3} (h0 : x ≠ 0) (h2 : x ≠ 2) (h3 : x ≠ 3) (h4 : x ≠ 4) (h6 : x ≠ 6)
    (h7 : x ≠ 7) (h1 : x ≠ 1) : x = 0b101#3 := by
  bv_omega

/-- What FENCE's row keeps of a word and gives to its operands. -/
theorem and_maskFence (w : Word) : w &&& (0xFFF0707F : Word) =
    (w.extractLsb' 20 12).setWidth 32 <<< 20 ||| (w.extractLsb' 12 3).setWidth 32 <<< 12 |||
      (w.extractLsb' 0 7).setWidth 32 := by
  ext i hi; interval_cases i <;> simp

/-- The word of an instruction that is no FENCE. -/
def IsWordOf (w : Word) (i : Instr) : Prop := encode i = w ∧ ∀ fm pred succ, i ≠ .fence fm pred succ

section
variable {w : Word} {i : Instr}

theorem isWordOf_of_decodeOp (h : decodeOp w = .ok i) (hop : w.extractLsb' 0 7 = 0b0110011#7) : IsWordOf w i := by
  unfold decodeOp at h
  split at h <;> rename_i hf3 hf7 <;> cases h
  all_goals exact ⟨wordR_of_fields hf7 hf3 hop, nofun⟩

theorem isWordOf_of_decodeOpImm (h : decodeOpImm w = .ok i) (hop : w.extractLsb' 0 7 = 0b0010011#7) :
    IsWordOf w i := by
  unfold decodeOpImm at h
  split at h
  case h_7 hf3 =>
    split at h
    · cases h
      exact ⟨wordR_of_fields ‹_› hf3 hop, nofun⟩
    · cases h
  case h_8 h0 h2 h3 h4 h6 h7 h1 =>
    have hf3 := funct3_eq_five_of_ne h0 h2 h3 h4 h6 h7 h1
    split at h <;> rename_i hf7 <;> cases h
    all_goals exact ⟨wordR_of_fields hf7 hf3 hop, nofun⟩
  all_goals
    rename_i hf3
    cases h
    exact ⟨wordI_of_fields hf3 hop, nofun⟩

theorem isWordOf_of_decodeLoad (h : decodeLoad w = .ok i) (hop : w.extractLsb' 0 7 = 0b0000011#7) : IsWordOf w i := by
  unfold decodeLoad at h
  split at h <;> rename_i hf3 <;> cases h
  all_goals exact ⟨wordI_of_fields hf3 hop, nofun⟩

theorem isWordOf_of_decodeJalr (h : decodeJalr w = .ok i) (hop : w.extractLsb' 0 7 = 0b1100111#7) : IsWordOf w i := by
  unfold decodeJalr at h
  split at h <;> rename_i hf3 <;> cases h
  exact ⟨wordI_of_fields hf3 hop, nofun⟩

theorem isWordOf_of_decodeStore (h : decodeStore w = .ok i) (hop : w.extractLsb' 0 7 = 0b0100011#7) : IsWordOf w i := by
  unfold decodeStore at h
  split at h <;> rename_i hf3 <;> cases h
  all_goals exact ⟨wordS_of_fields hf3 hop, nofun⟩

theorem isWordOf_of_decodeBranch (h : decodeBranch w = .ok i) (hop : w.extractLsb' 0 7 = 0b1100011#7) :
    IsWordOf w i := by
  unfold decodeBranch at h
  split at h <;> rename_i hf3 <;> cases h
  all_goals exact ⟨wordB_of_fields hf3 hop, nofun⟩

theorem isWordOf_of_decodeSystem (h : decodeSystem w = .ok i) : IsWordOf w i := by
  unfold decodeSystem at h
  split_ifs at h with hecall hebreak <;> cases h
  · exact ⟨by rw [hecall]; decide, nofun⟩
  · exact ⟨by rw [hebreak]; decide, nofun⟩

/-- FENCE has three operands in bits [31:20], and its rs1 and rd bits are encoded as zero (R134). -/
theorem fence_of_decodeMiscMem (h : decodeMiscMem w = .ok i) (hop : w.extractLsb' 0 7 = 0b0001111#7) :
    i = .fence (fmOf w) (predOf w) (succOf w) ∧ encode i = w &&& 0xFFF0707F := by
  unfold decodeMiscMem at h
  split at h <;> rename_i hf3 <;> cases h
  refine ⟨rfl, ?_⟩
  simp (disch := omega) only [encode, ofInt_fmOf, ofInt_predOf, ofInt_succOf,
    BitVec.extractLsb'_append_extractLsb'_eq_extractLsb']
  rw [and_maskFence, hf3, hop, wordI_eq_or]
  simp

/-- A word that decodes is its instruction's word, or a FENCE word whose open bits encoding clears. -/
theorem decodeWord_cases (h : decodeWord w = .ok i) : IsWordOf w i ∨
    (i = .fence (fmOf w) (predOf w) (succOf w) ∧ encode i = w &&& 0xFFF0707F) := by
  unfold decodeWord at h
  split at h <;> rename_i hop
  · exact .inl (isWordOf_of_decodeOp h hop)
  · exact .inl (isWordOf_of_decodeOpImm h hop)
  · exact .inl (isWordOf_of_decodeLoad h hop)
  · exact .inl (isWordOf_of_decodeJalr h hop)
  · exact .inl (isWordOf_of_decodeStore h hop)
  · exact .inl (isWordOf_of_decodeBranch h hop)
  · cases h
    exact .inl ⟨wordU_of_fields hop, nofun⟩
  · cases h
    exact .inl ⟨wordU_of_fields hop, nofun⟩
  · cases h
    exact .inl ⟨wordJ_of_fields hop, nofun⟩
  · exact .inr (fence_of_decodeMiscMem h hop)
  · exact .inl (isWordOf_of_decodeSystem h)
  · cases h

/-- A range of the word, read as an integer, is in the range of its width. -/
theorem zext_wordBits (w : Word) (hi lo : Nat) : zext (hi - lo + 1) (wordBits w hi lo) = wordBits w hi lo :=
  (zext_eq_self_iff _ _).mpr ⟨Int.natCast_nonneg _, by rw [wordBits]; exact_mod_cast BitVec.isLt _⟩

/-- What the decoder reads is in the ranges of R6. -/
theorem wellFormed_of_decodeWord (h : decodeWord w = .ok i) : i.wellFormed = true := by
  obtain ⟨hw, -⟩ | ⟨rfl, -⟩ := decodeWord_cases h
  · rw [← hw, decodeWord_encode] at h
    exact i.wellFormed_iff_masked_eq.mpr (Except.ok.inj h)
  · simp only [Instr.wellFormed, Bool.and_eq_true]
    exact ⟨⟨(nibbleOk_iff _).mpr (zext_wordBits w 31 28), (nibbleOk_iff _).mpr (zext_wordBits w 27 24)⟩,
      (nibbleOk_iff _).mpr (zext_wordBits w 23 20)⟩

end

end Sys2Proof

namespace Sys2Proof.Proofs
open Machine

/-- Settles O45: what the decoder read is in range, and putting it back at the same positions gives the word, but for
the bits FENCE's row leaves open. -/
theorem encodeInvertsDecode : Obligations.EncodeInvertsDecode := by
  intro w i h
  refine ⟨wellFormed_of_decodeWord h, ?_⟩
  obtain ⟨hw, hne⟩ | ⟨rfl, hw⟩ := decodeWord_cases h
  · rw [hw]
    split
    · exact absurd rfl (hne _ _ _)
    · rfl
  · exact hw

end Sys2Proof.Proofs

/-! A word of a row decodes to the row's mnemonic (R64, R65). -/

namespace Sys2Proof
open Machine

/-- A field all of whose bits a mask keeps is read from the masked word. -/
theorem extractLsb'_eq_of_and_eq {w m p : Word} {lo n : Nat} (h : w &&& m = p)
    (hm : m.extractLsb' lo n = BitVec.allOnes n) : w.extractLsb' lo n = p.extractLsb' lo n := by
  rw [← h, BitVec.extractLsb'_and, hm, BitVec.and_allOnes]

/-- The word decodes to an instruction with the row's mnemonic. -/
def TableRow.DecodesTo (row : TableRow) (w : Word) : Prop := ∃ i, decodeWord w = .ok i ∧ i.mnemonic = row.mnemonic

section
variable {w p : Word} {row : TableRow}

theorem opcode_of_mask (h : w &&& 0x0000007F = p) : w.extractLsb' 0 7 = p.extractLsb' 0 7 :=
  extractLsb'_eq_of_and_eq h (by decide)

theorem fields_of_maskFunct3 (h : w &&& 0x0000707F = p) :
    w.extractLsb' 12 3 = p.extractLsb' 12 3 ∧ w.extractLsb' 0 7 = p.extractLsb' 0 7 :=
  ⟨extractLsb'_eq_of_and_eq h (by decide), extractLsb'_eq_of_and_eq h (by decide)⟩

theorem fields_of_maskFunct7 (h : w &&& 0xFE00707F = p) : w.extractLsb' 25 7 = p.extractLsb' 25 7 ∧
    w.extractLsb' 12 3 = p.extractLsb' 12 3 ∧ w.extractLsb' 0 7 = p.extractLsb' 0 7 :=
  ⟨extractLsb'_eq_of_and_eq h (by decide), extractLsb'_eq_of_and_eq h (by decide),
    extractLsb'_eq_of_and_eq h (by decide)⟩

theorem decodesTo_of_mem_tableR (hrow : row ∈ tableR) (h : w &&& row.mask = row.pattern) : row.DecodesTo w := by
  fin_cases hrow
  all_goals
    obtain ⟨hf7, hf3, hop⟩ := fields_of_maskFunct7 h
    simp [TableRow.DecodesTo, decodeWord, decodeOp, hop, hf3, hf7, Instr.mnemonic]

theorem decodesTo_of_mem_tableOpImm (hrow : row ∈ tableOpImm) (h : w &&& row.mask = row.pattern) :
    row.DecodesTo w := by
  fin_cases hrow
  iterate 6
    · obtain ⟨hf3, hop⟩ := fields_of_maskFunct3 h
      simp [TableRow.DecodesTo, decodeWord, decodeOpImm, hop, hf3, Instr.mnemonic]
  all_goals
    obtain ⟨hf7, hf3, hop⟩ := fields_of_maskFunct7 h
    simp [TableRow.DecodesTo, decodeWord, decodeOpImm, hop, hf3, hf7, Instr.mnemonic]

theorem decodesTo_of_mem_tableLoadStore (hrow : row ∈ tableLoadStore) (h : w &&& row.mask = row.pattern) :
    row.DecodesTo w := by
  fin_cases hrow
  all_goals
    obtain ⟨hf3, hop⟩ := fields_of_maskFunct3 h
    simp [TableRow.DecodesTo, decodeWord, decodeLoad, decodeJalr, decodeStore, hop, hf3, Instr.mnemonic]

theorem decodesTo_of_mem_tableRest (hrow : row ∈ tableRest) (h : w &&& row.mask = row.pattern) :
    row.DecodesTo w := by
  have hsystem (p : Word) (hp : w &&& 0xFFFFFFFF = p) : w = p := BitVec.and_allOnes.symm.trans hp
  fin_cases hrow
  iterate 6
    · obtain ⟨hf3, hop⟩ := fields_of_maskFunct3 h
      simp [TableRow.DecodesTo, decodeWord, decodeBranch, hop, hf3, Instr.mnemonic]
  iterate 3
    · simp [TableRow.DecodesTo, decodeWord, opcode_of_mask h, Instr.mnemonic]
  · obtain ⟨hf3, hop⟩ := fields_of_maskFunct3 h
    simp [TableRow.DecodesTo, decodeWord, decodeMiscMem, hop, hf3, Instr.mnemonic]
  · obtain rfl := hsystem _ h
    exact ⟨.ecall, by decide, rfl⟩
  · obtain rfl := hsystem _ h
    exact ⟨.ebreak, by decide, rfl⟩

/-- A word with a row's fixed bits decodes to an instruction of the row. -/
theorem decodesTo_of_mem_opcodeTable (hrow : row ∈ opcodeTable) (h : w &&& row.mask = row.pattern) :
    row.DecodesTo w := by
  simp only [opcodeTable, List.mem_append] at hrow
  obtain ((hrow | hrow) | hrow) | hrow := hrow
  · exact decodesTo_of_mem_tableR hrow h
  · exact decodesTo_of_mem_tableOpImm hrow h
  · exact decodesTo_of_mem_tableLoadStore hrow h
  · exact decodesTo_of_mem_tableRest hrow h

/-- No two rows have one mnemonic. -/
theorem TableRow.eq_of_mnemonic_eq {row' : TableRow} (hrow : row ∈ opcodeTable) (hrow' : row' ∈ opcodeTable)
    (h : row.mnemonic = row'.mnemonic) : row = row' :=
  List.inj_on_of_nodup_map (f := TableRow.mnemonic) (by decide) hrow hrow' h

/-- Clearing the bits FENCE's row leaves open changes nothing its mask keeps. -/
theorem maskFence_and_mask (hrow : row ∈ opcodeTable) (h : row.mnemonic = "FENCE") :
    (0xFFF0707F : Word) &&& row.mask = row.mask := by
  obtain rfl := TableRow.eq_of_mnemonic_eq hrow (row' := ⟨"FENCE", .I, 0x0000707F, 0x0000000F⟩) (by decide) h
  decide

/-- A word that decodes to an instruction of a row has the row's fixed bits. -/
theorem TableRow.DecodesTo.and_mask_eq (h : row.DecodesTo w) (hrow : row ∈ opcodeTable) :
    w &&& row.mask = row.pattern := by
  obtain ⟨i, hi, hmnemonic⟩ := h
  obtain ⟨row', hrow', hmnemonic', hbits⟩ := Laws.TableRow.holds i
  obtain rfl := TableRow.eq_of_mnemonic_eq hrow' hrow (hmnemonic'.trans hmnemonic)
  obtain ⟨hw, -⟩ | ⟨rfl, hw⟩ := decodeWord_cases hi
  · rwa [hw] at hbits
  · rwa [hw, BitVec.and_assoc, maskFence_and_mask hrow hmnemonic'] at hbits

end
end Sys2Proof

namespace Sys2Proof.Proofs
open Machine

/-- Settles O43: a word with a row's bits decodes to the row's mnemonic; a word that decodes is its instruction's word
in every bit its row fixes. -/
theorem decoderFollowsTheOpcodeTable : Obligations.DecoderFollowsTheOpcodeTable := by
  intro w
  have hrows (row) (hrow : row ∈ opcodeTable) : row.DecodesTo w ↔ w &&& row.mask = row.pattern :=
    ⟨fun h => h.and_mask_eq hrow, decodesTo_of_mem_opcodeTable hrow⟩
  refine ⟨hrows, ?_, fun hnone => ?_⟩
  · rintro ⟨e, he⟩ row hrow hbits
    obtain ⟨i, hi, -⟩ := (hrows row hrow).mpr hbits
    rw [he] at hi
    cases hi
  · rcases hw : decodeWord w with e | i
    · exact ⟨e, rfl⟩
    · obtain ⟨row, hrow, hmnemonic, -⟩ := Laws.TableRow.holds i
      exact absurd ((hrows row hrow).mp ⟨i, hw, hmnemonic.symm⟩) (hnone row hrow)

end Sys2Proof.Proofs

/-! Every word is the word of its own fields, in each format (R57, R67, R68). -/

namespace Sys2Proof.Machine

theorem encodeR_of_fields (w : Word) :
    encodeR (funct7Of w) (rs2Of w) (rs1Of w) (funct3Of w) (rdOf w) (opcodeOf w) = w := by
  rw [encodeR_eq_wordR, ofInt_funct7Of, ofInt_funct3Of, ofInt_opcodeOf, wordR_of_fields rfl rfl rfl]

theorem encodeI_of_fields (w : Word) : encodeI (immIOf w) (rs1Of w) (funct3Of w) (rdOf w) (opcodeOf w) = w := by
  rw [encodeI_eq_wordI, ofInt_funct3Of, ofInt_opcodeOf, wordI_of_fields rfl rfl]

theorem encodeS_of_fields (w : Word) : encodeS (immSOf w) (rs2Of w) (rs1Of w) (funct3Of w) (opcodeOf w) = w := by
  rw [encodeS_eq_wordS, ofInt_funct3Of, ofInt_opcodeOf, wordS_of_fields rfl rfl]

theorem encodeB_of_fields (w : Word) : encodeB (immBOf w) (rs2Of w) (rs1Of w) (funct3Of w) (opcodeOf w) = w := by
  rw [encodeB_eq_wordB, ofInt_funct3Of, ofInt_opcodeOf, wordB_of_fields rfl rfl]

theorem encodeU_of_fields (w : Word) : encodeU (immUOf w) (rdOf w) (opcodeOf w) = w := by
  rw [encodeU_eq_wordU, ofInt_opcodeOf, wordU_of_fields rfl]

theorem encodeJ_of_fields (w : Word) : encodeJ (immJOf w) (rdOf w) (opcodeOf w) = w := by
  rw [encodeJ_eq_wordJ, ofInt_opcodeOf, wordJ_of_fields rfl]

/-- A word the decoder rejects is presented as the raw request of its fields (log entry 4). -/
theorem tableCall_of_reject {w : Word} {e : DecodeReject} (h : decodeWord w = .error e) :
    tableCall 32 w.toNat = .encode (rawRequest w) := by
  simp only [tableCall, decodeTableWord, tableWord_toNat, wordBytes, decode, wordOfBytes_wordByte, h]

end Sys2Proof.Machine

namespace Sys2Proof.Proofs
open Machine

/-- Settles O33: each format's encoder puts the fields its extractors read back in their places. -/
theorem everyWordIsProduced : Obligations.EveryWordIsProduced :=
  ⟨fun w => ⟨encodeR_of_fields w, encodeI_of_fields w, encodeS_of_fields w, encodeB_of_fields w, encodeU_of_fields w,
    encodeJ_of_fields w⟩, rfl, rfl⟩

/-- Settles O49: a rejected word is presented as the raw R request of its own fields, whose word it is. -/
theorem wordsOfNoRowAreServedRaw : Obligations.WordsOfNoRowAreServedRaw := by
  intro s w e h
  rw [step_withFetchWord, tableCall_of_reject h, perform, rawRequest, encodeRequest, encodeR_of_fields]
  rfl

end Sys2Proof.Proofs

/-! Each row of a format's layout table holds the bits of its input (R44 to R50). -/

namespace Sys2Proof.Machine

/-- A field of an integer's low bits is the low bits of the integer shifted. -/
theorem extractLsb'_ofInt {n k w : Nat} (v : Int) (h : k + w ≤ n) :
    (BitVec.ofInt n v).extractLsb' k w = BitVec.ofInt w (v >>> k) := (ofInt_shiftRight w n k v h).symm

/-- The word of a request has in each row of its layout the named bits of the named input. -/
theorem extractLsb'_of_mem_layout (r : EncodeRequest) : ∀ row ∈ layout r.format,
    (encodeRequest r).extractLsb' row.lo (row.hi - row.lo + 1) =
      BitVec.ofInt (row.hi - row.lo + 1) (r.input row.field >>> row.inputLo) := by
  cases r with
  | R f7 rs2 rs1 f3 rd op =>
    simp [encodeRequest, EncodeRequest.format, layout, EncodeRequest.input, encodeR_eq_wordR, wordR_fields]
  | I imm rs1 f3 rd op =>
    simp [encodeRequest, EncodeRequest.format, layout, EncodeRequest.input, encodeI_eq_wordI, wordI_fields]
  | S imm rs2 rs1 f3 op =>
    simp [encodeRequest, EncodeRequest.format, layout, EncodeRequest.input, encodeS_eq_wordS, wordS_fields,
      extractLsb'_ofInt]
  | B imm rs2 rs1 f3 op =>
    simp [encodeRequest, EncodeRequest.format, layout, EncodeRequest.input, encodeB_eq_wordB, wordB_fields,
      extractLsb'_ofInt]
  | U imm rd op =>
    simp [encodeRequest, EncodeRequest.format, layout, EncodeRequest.input, encodeU_eq_wordU, wordU_fields]
  | J imm rd op =>
    simp [encodeRequest, EncodeRequest.format, layout, EncodeRequest.input, encodeJ_eq_wordJ, wordJ_fields,
      extractLsb'_ofInt]

/-- The integer a request puts in a row of its layout: the named bits of the named input. -/
def EncodeRequest.rowValue (r : EncodeRequest) (row : LayoutRow) : Int :=
  bits (r.input row.field) (row.inputLo + (row.hi - row.lo)) row.inputLo

/-- A row's positions hold the row's value. -/
theorem wordBits_of_mem_layout (r : EncodeRequest) {row : LayoutRow} (hrow : row ∈ layout r.format) :
    wordBits (encodeRequest r) row.hi row.lo = r.rowValue row := by
  rw [EncodeRequest.rowValue, bits_eq_zext, Nat.add_sub_cancel_left]
  exact wordBits_eq_zext (extractLsb'_of_mem_layout r row hrow)

/-- The value of a row that takes its input from bit 0 is the masked input. -/
theorem wordBits_of_whole_row (r : EncodeRequest) {hi lo : Nat} {field : FieldName}
    (hrow : ⟨hi, lo, field, 0⟩ ∈ layout r.format) :
    wordBits (encodeRequest r) hi lo = zext (hi - lo + 1) (r.input field) :=
  wordBits_eq_zext (by simpa using extractLsb'_of_mem_layout r _ hrow)

theorem opcode_row_mem (f : Format) : ⟨6, 0, .opcode, 0⟩ ∈ layout f := by cases f <;> decide

/-- In every format bits [6:0] are the opcode input (R44). -/
theorem opcodeOf_encodeRequest (r : EncodeRequest) : opcodeOf (encodeRequest r) = zext 7 (r.input .opcode) :=
  wordBits_of_whole_row r (opcode_row_mem r.format)

theorem bitOf_shiftRight (v : Int) (k i : Nat) : bitOf (v >>> k) i = bitOf v (k + i) := by
  rw [bitOf, bitOf, Int.shiftRight_eq_div_pow, Nat.cast_pow, Nat.cast_ofNat,
    Int.ediv_ediv_of_nonneg (by positivity), pow_add]

section
variable (r : EncodeRequest) {row : LayoutRow} (hrow : row ∈ layout r.format) {i : Nat} (hlo : row.lo ≤ i)
  (hhi : i ≤ row.hi)
include hrow hlo hhi

/-- A position a row covers holds the row's bit of its input. -/
theorem wordBit_of_mem_layout :
    wordBits (encodeRequest r) i i = bitOf (r.input row.field) (row.inputLo + (i - row.lo)) := by
  have hin : i - row.lo < row.hi - row.lo + 1 := by omega
  rw [← bitOf_shiftRight, bitOf_eq_extractLsb' _ _ _ hin, ← extractLsb'_of_mem_layout r row hrow,
    extractLsb'_extractLsb'_of_add_le _ hin, Nat.add_sub_cancel' hlo, wordBits, Nat.sub_self]

theorem getLsbD_of_mem_layout :
    (encodeRequest r).getLsbD i = true ↔ bitOf (r.input row.field) (row.inputLo + (i - row.lo)) = 1 := by
  rw [← wordBit_of_mem_layout r hrow hlo hhi, wordBits, Nat.sub_self, BitVec.getLsbD_eq_extractLsb', beq_iff_eq,
    BitVec.toNat_eq]
  norm_cast

end

/-- Every position of the word is covered by exactly one row. -/
theorem existsUnique_row_covers (f : Format) : ∀ i < 32, ∃ row ∈ layout f, (row.lo ≤ i ∧ i ≤ row.hi) ∧
    ∀ other ∈ layout f, other.lo ≤ i → i ≤ other.hi → other = row := by
  cases f <;> decide

/-- No row reaches past the word. -/
theorem row_hi_lt (f : Format) : ∀ row ∈ layout f, row.hi < 32 := by cases f <;> decide

/-- Two requests of one format have one word exactly when they agree in the value of every row: the rows tile the
word. -/
theorem encodeRequest_eq_iff {r r' : EncodeRequest} (hf : r'.format = r.format) :
    encodeRequest r = encodeRequest r' ↔ ∀ row ∈ layout r.format, r.rowValue row = r'.rowValue row := by
  constructor
  · intro h row hrow
    rw [← wordBits_of_mem_layout r hrow, h, wordBits_of_mem_layout r' (hf ▸ hrow)]
  · intro h
    apply BitVec.eq_of_getLsbD_eq
    intro i hi
    obtain ⟨row, hrow, ⟨hlo, hhi⟩, -⟩ := existsUnique_row_covers r.format i hi
    have hrange : (encodeRequest r).extractLsb' row.lo (row.hi - row.lo + 1) =
        (encodeRequest r').extractLsb' row.lo (row.hi - row.lo + 1) := by
      apply BitVec.eq_of_toNat_eq
      have hval := h row hrow
      rw [← wordBits_of_mem_layout r hrow, ← wordBits_of_mem_layout r' (hf ▸ hrow)] at hval
      exact Int.ofNat_inj.mp hval
    have hin : i - row.lo < row.hi - row.lo + 1 := by omega
    have hbit := congrArg (BitVec.getLsbD · (i - row.lo)) hrange
    simpa [BitVec.getLsbD_extractLsb', hin, Nat.add_sub_cancel' hlo] using hbit

end Sys2Proof.Machine

namespace Sys2Proof.Proofs
open Machine

/-- Settles O6: the rows of a layout tile the word, and each holds the bits of its input. -/
theorem fieldsTileTheWord : Obligations.FieldsTileTheWord := by
  intro r
  refine ⟨fun i hi => ?_, row_hi_lt r.format, opcodeOf_encodeRequest r⟩
  obtain ⟨row, hrow, ⟨hlo, hhi⟩, honly⟩ := existsUnique_row_covers r.format i hi
  exact ⟨row, hrow, ⟨hlo, hhi⟩, honly, getLsbD_of_mem_layout r hrow hlo hhi⟩

end Sys2Proof.Proofs

/-! The opcode of a mnemonic's word and the format it selects (R59, R66). -/

namespace Sys2Proof.Machine

/-- Each mnemonic's request passes its category's opcode. -/
theorem input_opcode_requestOf (i : Instr) : (requestOf i).input .opcode = i.opcode := by cases i <;> rfl

/-- The opcodes of R64 fit their field. -/
theorem zext_opcode (i : Instr) : zext 7 i.opcode = i.opcode := by cases i <;> rfl

theorem opcodeOf_requestOf (i : Instr) : opcodeOf (encodeRequest (requestOf i)) = i.opcode := by
  rw [opcodeOf_encodeRequest, input_opcode_requestOf, zext_opcode]

/-- Each mnemonic's request is of the format its opcode selects. -/
theorem formatOfOpcode_opcode (i : Instr) : formatOfOpcode i.opcode = some (requestOf i).format := by
  cases i <;> rfl

end Sys2Proof.Machine

namespace Sys2Proof.Proofs
open Machine

/-- Settles O9: the word of every mnemonic's request has the opcode the request passes, the category's constant. -/
theorem opcodeBitsAreTheCategoryConstant : Obligations.OpcodeBitsAreTheCategoryConstant :=
  fun i s => ⟨encodeRequest (requestOf i), exec_eq_returnWord i s, opcodeOf_requestOf i⟩

/-- Settles O41: every mnemonic's word is that of its request, whose opcode selects the request's format. -/
theorem opcodeSelectsTheFormat : Obligations.OpcodeSelectsTheFormat :=
  ⟨fun i s => ⟨exec_eq_returnWord i s, input_opcode_requestOf i, opcodeOf_requestOf i, formatOfOpcode_opcode i⟩,
    rfl, by decide, rfl, rfl, rfl, rfl, rfl⟩

end Sys2Proof.Proofs

/-! When two calls of one encoder return one word (R63). -/

namespace Sys2Proof.Machine

/-- Two integers have one masked value exactly when they have the same low bits. -/
theorem zext_eq_zext_iff (n : Nat) (v v' : Int) : zext n v = zext n v' ↔ BitVec.ofInt n v = BitVec.ofInt n v' := by
  rw [zext_eq_ofInt, zext_eq_ofInt, Int.ofNat_inj, BitVec.toNat_inj]

/-- Signed and unsigned, masked values tell the same integers apart. -/
theorem sext_eq_sext_iff {n : Nat} (v v' : Int) (hn : 0 < n) : sext n v = sext n v' ↔ zext n v = zext n v' := by
  rw [sext_eq_ofInt n v hn, sext_eq_ofInt n v' hn, BitVec.toInt_inj, zext_eq_zext_iff]

/-- The signed masked value with bit 0 cleared is twice that of the half. -/
theorem sext_succ_sub_zext_one {n : Nat} (v : Int) (hn : 0 < n) :
    sext (n + 1) v - zext 1 v = 2 * sext n (v >>> (1 : Nat)) := by
  obtain ⟨k, rfl⟩ : ∃ k, n = k + 1 := ⟨n - 1, by omega⟩
  have hhalf : v >>> (1 : Nat) = v / 2 := Int.shiftRight_eq_div_pow v 1
  have hbit : zext 1 v = v % 2 := rfl
  have hsucc := zext_succ (k + 1) v
  have hpow : (2 : Int) ^ (k + 1) = 2 * 2 ^ k := pow_succ' 2 k
  have hpow' : (2 : Int) ^ (k + 1 + 1) = 2 * 2 ^ (k + 1) := pow_succ' 2 (k + 1)
  rw [hhalf, hbit]
  simp only [sext, Nat.add_sub_cancel]
  split <;> split <;> omega

theorem sext_sub_zext_one_eq_iff {n : Nat} (v v' : Int) (hn : 0 < n) :
    sext (n + 1) v - zext 1 v = sext (n + 1) v' - zext 1 v' ↔ bits v n 1 = bits v' n 1 := by
  rw [sext_succ_sub_zext_one v hn, sext_succ_sub_zext_one v' hn, mul_right_inj' two_ne_zero, sext_eq_sext_iff _ _ hn,
    bits_eq_zext, bits_eq_zext, Nat.sub_add_cancel hn]

theorem maskedB_eq_iff (v v' : Int) : maskedB v = maskedB v' ↔ bits v 12 1 = bits v' 12 1 :=
  sext_sub_zext_one_eq_iff v v' (by decide)

theorem maskedJ_eq_iff (v v' : Int) : maskedJ v = maskedJ v' ↔ bits v 20 1 = bits v' 20 1 :=
  sext_sub_zext_one_eq_iff v v' (by decide)

/-- A range from bit 0 is the masked integer. -/
theorem bits_zero (v : Int) (hi : Nat) : bits v hi 0 = zext (hi + 1) v := by
  simp [bits_eq_zext]

/-- Two integers agree in their low `n + m` bits exactly when they agree in the upper `n` and in the lower `m`. -/
theorem zext_add_eq_iff (n m : Nat) (v v' : Int) : zext (n + m) v = zext (n + m) v' ↔
    zext n (v >>> m) = zext n (v' >>> m) ∧ zext m v = zext m v' := by
  have hlow (u : Int) : BitVec.ofInt m u = (BitVec.ofInt (n + m) u).extractLsb' 0 m := by
    simpa using ofInt_shiftRight m (n + m) 0 u (by omega)
  simp only [zext_eq_zext_iff, ofInt_shiftRight n (n + m) m _ (by omega), hlow]
  refine ⟨fun h => by simp [h], fun ⟨hhi, hlo⟩ => ?_⟩
  rw [← BitVec.extractLsb'_append_extractLsb' (x := BitVec.ofInt (n + m) v), hhi, hlo,
    BitVec.extractLsb'_append_extractLsb']

/-- Two integers agree in a range exactly when they agree in its two parts. -/
theorem bits_eq_bits_iff (v v' : Int) {hi mid lo : Nat} (hlo : lo ≤ mid) (hhi : mid < hi) :
    bits v hi lo = bits v' hi lo ↔ bits v hi (mid + 1) = bits v' hi (mid + 1) ∧ bits v mid lo = bits v' mid lo := by
  have hsplit := zext_add_eq_iff (hi - (mid + 1) + 1) (mid - lo + 1) (v >>> lo) (v' >>> lo)
  rw [← Int.shiftRight_add, ← Int.shiftRight_add, show hi - (mid + 1) + 1 + (mid - lo + 1) = hi - lo + 1 by omega,
    show lo + (mid - lo + 1) = mid + 1 by omega] at hsplit
  simpa only [bits_eq_zext] using hsplit

section
variable (imm imm' rs2 rs2' rs1 rs1' f3 f3' rd rd' op op' : Int)

theorem encodeR_eq_iff (f7 f7' : Int) : encodeR f7 rs2 rs1 f3 rd op = encodeR f7' rs2' rs1' f3' rd' op' ↔
    zext 7 f7 = zext 7 f7' ∧ zext 5 rs2 = zext 5 rs2' ∧ zext 5 rs1 = zext 5 rs1' ∧ zext 3 f3 = zext 3 f3' ∧
      zext 5 rd = zext 5 rd' ∧ zext 7 op = zext 7 op' := by
  refine (encodeRequest_eq_iff (r := .R f7 rs2 rs1 f3 rd op) (r' := .R f7' rs2' rs1' f3' rd' op') rfl).trans ?_
  simp [EncodeRequest.format, layout, EncodeRequest.rowValue, EncodeRequest.input, bits_zero]

theorem encodeI_eq_iff : encodeI imm rs1 f3 rd op = encodeI imm' rs1' f3' rd' op' ↔
    zext 12 imm = zext 12 imm' ∧ zext 5 rs1 = zext 5 rs1' ∧ zext 3 f3 = zext 3 f3' ∧ zext 5 rd = zext 5 rd' ∧
      zext 7 op = zext 7 op' := by
  refine (encodeRequest_eq_iff (r := .I imm rs1 f3 rd op) (r' := .I imm' rs1' f3' rd' op') rfl).trans ?_
  simp [EncodeRequest.format, layout, EncodeRequest.rowValue, EncodeRequest.input, bits_zero]

theorem encodeS_eq_iff : encodeS imm rs2 rs1 f3 op = encodeS imm' rs2' rs1' f3' op' ↔
    zext 12 imm = zext 12 imm' ∧ zext 5 rs2 = zext 5 rs2' ∧ zext 5 rs1 = zext 5 rs1' ∧ zext 3 f3 = zext 3 f3' ∧
      zext 7 op = zext 7 op' := by
  refine (encodeRequest_eq_iff (r := .S imm rs2 rs1 f3 op) (r' := .S imm' rs2' rs1' f3' op') rfl).trans ?_
  rw [← bits_zero imm 11, ← bits_zero imm' 11, bits_eq_bits_iff imm imm' (mid := 4) (by decide) (by decide)]
  simp only [EncodeRequest.format, layout, List.mem_cons, List.not_mem_nil, or_false, forall_eq_or_imp, forall_eq,
    EncodeRequest.rowValue, EncodeRequest.input, tsub_zero, zero_add, Nat.reduceSub, Nat.reduceAdd, bits_zero]
  tauto

theorem encodeB_eq_iff : encodeB imm rs2 rs1 f3 op = encodeB imm' rs2' rs1' f3' op' ↔
    bits imm 12 1 = bits imm' 12 1 ∧ zext 5 rs2 = zext 5 rs2' ∧ zext 5 rs1 = zext 5 rs1' ∧ zext 3 f3 = zext 3 f3' ∧
      zext 7 op = zext 7 op' := by
  refine (encodeRequest_eq_iff (r := .B imm rs2 rs1 f3 op) (r' := .B imm' rs2' rs1' f3' op') rfl).trans ?_
  rw [bits_eq_bits_iff imm imm' (mid := 11) (by decide) (by decide),
    bits_eq_bits_iff imm imm' (hi := 11) (mid := 10) (by decide) (by decide),
    bits_eq_bits_iff imm imm' (hi := 10) (mid := 4) (by decide) (by decide)]
  simp only [EncodeRequest.format, layout, List.mem_cons, List.not_mem_nil, or_false, forall_eq_or_imp, forall_eq,
    EncodeRequest.rowValue, EncodeRequest.input, tsub_self, tsub_zero, add_zero, zero_add, Nat.reduceSub,
    Nat.reduceAdd, bits_zero]
  tauto

theorem encodeU_eq_iff : encodeU imm rd op = encodeU imm' rd' op' ↔
    zext 20 imm = zext 20 imm' ∧ zext 5 rd = zext 5 rd' ∧ zext 7 op = zext 7 op' := by
  refine (encodeRequest_eq_iff (r := .U imm rd op) (r' := .U imm' rd' op') rfl).trans ?_
  simp [EncodeRequest.format, layout, EncodeRequest.rowValue, EncodeRequest.input, bits_zero]

theorem encodeJ_eq_iff : encodeJ imm rd op = encodeJ imm' rd' op' ↔
    bits imm 20 1 = bits imm' 20 1 ∧ zext 5 rd = zext 5 rd' ∧ zext 7 op = zext 7 op' := by
  refine (encodeRequest_eq_iff (r := .J imm rd op) (r' := .J imm' rd' op') rfl).trans ?_
  rw [bits_eq_bits_iff imm imm' (mid := 19) (by decide) (by decide),
    bits_eq_bits_iff imm imm' (hi := 19) (mid := 11) (by decide) (by decide),
    bits_eq_bits_iff imm imm' (hi := 11) (mid := 10) (by decide) (by decide)]
  simp only [EncodeRequest.format, layout, List.mem_cons, List.not_mem_nil, or_false, forall_eq_or_imp, forall_eq,
    EncodeRequest.rowValue, EncodeRequest.input, tsub_self, tsub_zero, add_zero, zero_add, Nat.reduceSub,
    Nat.reduceAdd, bits_zero]
  tauto

end

end Sys2Proof.Machine

namespace Sys2Proof.Proofs
open Machine

/-- Settles O13: equal words agree row by row of the layout, and the rows together are the masked fields. -/
theorem encodersInjectiveOnMaskedInputs : Obligations.EncodersInjectiveOnMaskedInputs := by
  refine ⟨?_, fun _ _ _ _ _ _ _ _ _ _ => encodeI_eq_iff .., fun _ _ _ _ _ _ _ _ _ _ => encodeS_eq_iff .., ?_,
    fun _ _ _ _ _ _ => encodeU_eq_iff .., ?_⟩
  · intro f7 rs2 rs1 f3 rd op f7' rs2' rs1' f3' rd' op'
    exact encodeR_eq_iff ..
  · intro imm rs2 rs1 f3 op imm' rs2' rs1' f3' op'
    rw [maskedB_eq_iff]
    exact encodeB_eq_iff ..
  · intro imm rd op imm' rd' op'
    rw [maskedJ_eq_iff]
    exact encodeJ_eq_iff ..

/-- Settles O5: each row holds its input's bits, and no row of B or J reads bit 0 of the immediate or a bit above. -/
theorem everyRequestFollowsItsLayout : Obligations.EveryRequestFollowsItsLayout := by
  refine ⟨fun r row hrow => wordBits_of_mem_layout r hrow, fun imm imm' rs2 rs1 f3 op h => ?_,
    fun imm imm' rd op h => ?_⟩
  · exact (encodeB_eq_iff ..).mpr ⟨h, rfl, rfl, rfl, rfl⟩
  · exact (encodeJ_eq_iff ..).mpr ⟨h, rfl, rfl⟩

end Sys2Proof.Proofs

/-! The extractors of R57 on an encoder's word (R58). -/

namespace Sys2Proof.Machine

theorem zext_sext (n : Nat) (v : Int) (hn : 0 < n) : zext n (sext n v) = zext n v := by
  rw [zext_eq_zext_iff, ofInt_sext n v hn]

/-- The masked value with bit 0 cleared, unsigned. -/
theorem zext_sext_sub_zext_one (n : Nat) (v : Int) : zext (n + 1) (sext (n + 1) v - zext 1 v) =
    zext (n + 1) v - zext 1 v := by
  have hself : zext (n + 1) (zext (n + 1) v - zext 1 v) = zext (n + 1) v - zext 1 v := by
    have hsucc := zext_succ n v
    have hbit : zext 1 v = v % 2 := rfl
    have hhalf := (zext_eq_self_iff n _).mp (zext_zext n (v / 2))
    have hpow : (2 : Int) ^ (n + 1) = 2 * 2 ^ n := pow_succ' 2 n
    exact (zext_eq_self_iff (n + 1) _).mpr ⟨by omega, by omega⟩
  unfold sext
  split
  · exact hself
  · have hwrap : zext (n + 1) v - 2 ^ (n + 1) - zext 1 v = zext (n + 1) v - zext 1 v + 2 ^ (n + 1) * -1 := by ring
    rw [hwrap, zext, Int.add_mul_emod_self_left]
    exact hself

/-- Every format but U and J has funct3 at [14:12]. -/
theorem funct3_row_mem {f : Format} (hU : f ≠ .U) (hJ : f ≠ .J) : ⟨14, 12, .funct3, 0⟩ ∈ layout f := by
  cases f with
  | R | I | S | B => decide
  | U => exact absurd rfl hU
  | J => exact absurd rfl hJ

theorem funct3Of_encodeRequest (r : EncodeRequest) (hU : r.format ≠ .U) (hJ : r.format ≠ .J) :
    funct3Of (encodeRequest r) = zext 3 (r.input .funct3) := wordBits_of_whole_row r (funct3_row_mem hU hJ)

theorem immIOf_encodeI (imm rs1 f3 rd op : Int) : immIOf (encodeI imm rs1 f3 rd op) = sext 12 imm := by
  rw [encodeI_eq_wordI]
  obtain ⟨-, -, himm⟩ := wordI_operands imm rs1 (BitVec.ofInt 3 f3) rd (BitVec.ofInt 7 op)
  exact himm

theorem immSOf_encodeS (imm rs2 rs1 f3 op : Int) : immSOf (encodeS imm rs2 rs1 f3 op) = sext 12 imm := by
  rw [encodeS_eq_wordS]
  obtain ⟨-, -, himm⟩ := wordS_operands imm rs2 rs1 (BitVec.ofInt 3 f3) (BitVec.ofInt 7 op)
  exact himm

theorem immBOf_encodeB (imm rs2 rs1 f3 op : Int) : immBOf (encodeB imm rs2 rs1 f3 op) = maskedB imm := by
  rw [encodeB_eq_wordB]
  obtain ⟨-, -, himm⟩ := wordB_operands imm rs2 rs1 (BitVec.ofInt 3 f3) (BitVec.ofInt 7 op)
  exact himm

theorem immUOf_encodeU (imm rd op : Int) : immUOf (encodeU imm rd op) = zext 20 imm := by
  rw [encodeU_eq_wordU]
  obtain ⟨-, himm⟩ := wordU_operands imm rd (BitVec.ofInt 7 op)
  exact himm

theorem immJOf_encodeJ (imm rd op : Int) : immJOf (encodeJ imm rd op) = maskedJ imm := by
  rw [encodeJ_eq_wordJ]
  obtain ⟨-, himm⟩ := wordJ_operands imm rd (BitVec.ofInt 7 op)
  exact himm

/-- A masked branch offset is even. -/
theorem maskedB_emod_two (v : Int) : maskedB v % 2 = 0 := by
  rw [maskedB, sext_succ_sub_zext_one v (n := 12) (by decide)]
  exact Int.mul_emod_right 2 _

/-- A masked jump offset is even. -/
theorem maskedJ_emod_two (v : Int) : maskedJ v % 2 = 0 := by
  rw [maskedJ, sext_succ_sub_zext_one v (n := 20) (by decide)]
  exact Int.mul_emod_right 2 _

/-- The B extractor gives an even offset for every word: every word is a B word. -/
theorem immBOf_emod_two (w : Word) : immBOf w % 2 = 0 := by
  rw [← encodeB_of_fields w, immBOf_encodeB, maskedB_emod_two]

theorem immJOf_emod_two (w : Word) : immJOf w % 2 = 0 := by
  rw [← encodeJ_of_fields w, immJOf_encodeJ, maskedJ_emod_two]

theorem bitOf_zero (v : Int) : bitOf v 0 = v % 2 := by simp [bitOf]

end Sys2Proof.Machine

namespace Sys2Proof.Proofs
open Machine

/-- Settles O8: each extractor reads the positions its field was packed at. -/
theorem everyFieldRoundTrips : Obligations.EveryFieldRoundTrips := by
  refine ⟨fun f7 rs2 rs1 f3 rd op => ?_, fun imm rs1 f3 rd op => ?_, fun imm rs2 rs1 f3 op => ?_,
    fun imm rs2 rs1 f3 op => ?_, fun imm rd op => ?_, fun imm rd op => ?_⟩
  · obtain ⟨hrd, hrs1, hrs2⟩ := encodeR_registers f7 rs2 rs1 f3 rd op
    obtain ⟨hf7, -⟩ := encodeR_funct7 f7 rs2 rs1 f3 rd op
    exact ⟨opcodeOf_encodeRequest (.R f7 rs2 rs1 f3 rd op), hf7, hrs2, hrs1,
      funct3Of_encodeRequest (.R f7 rs2 rs1 f3 rd op) nofun nofun, hrd,
      by rw [hf7, zext_zext]⟩
  · obtain ⟨hrd, hrs1⟩ := encodeI_registers imm rs1 f3 rd op
    exact ⟨opcodeOf_encodeRequest (.I imm rs1 f3 rd op), immIOf_encodeI .., hrs1,
      funct3Of_encodeRequest (.I imm rs1 f3 rd op) nofun nofun, hrd,
      by rw [immIOf_encodeI, zext_sext 12 imm (by decide)]⟩
  · obtain ⟨hrs1, hrs2⟩ := encodeS_registers imm rs2 rs1 f3 op
    exact ⟨opcodeOf_encodeRequest (.S imm rs2 rs1 f3 op), immSOf_encodeS .., hrs2, hrs1,
      funct3Of_encodeRequest (.S imm rs2 rs1 f3 op) nofun nofun,
      by rw [immSOf_encodeS, zext_sext 12 imm (by decide)]⟩
  · obtain ⟨hrs1, hrs2⟩ := encodeB_registers imm rs2 rs1 f3 op
    exact ⟨opcodeOf_encodeRequest (.B imm rs2 rs1 f3 op), immBOf_encodeB .., hrs2, hrs1,
      funct3Of_encodeRequest (.B imm rs2 rs1 f3 op) nofun nofun,
      by rw [immBOf_encodeB, maskedB, zext_sext_sub_zext_one 12 imm]⟩
  · exact ⟨opcodeOf_encodeRequest (.U imm rd op), immUOf_encodeU .., encodeU_register ..,
      by rw [immUOf_encodeU, zext_zext]⟩
  · exact ⟨opcodeOf_encodeRequest (.J imm rd op), immJOf_encodeJ .., encodeJ_register ..,
      by rw [immJOf_encodeJ, maskedJ, zext_sext_sub_zext_one 20 imm]⟩

/-- Settles O10: a decoded B or J immediate is twice an integer, and in range masking clears bit 0 only. -/
theorem branchAndJumpImmediatesDecodeEven : Obligations.BranchAndJumpImmediatesDecodeEven := by
  refine ⟨fun w => ?_, fun n rs2 rs1 f3 op hlo hhi => ?_, fun n rd op hlo hhi => ?_⟩
  · rw [bitOf_zero, bitOf_zero, immBOf_emod_two, immJOf_emod_two]
    exact ⟨rfl, rfl⟩
  · rw [immBOf_encodeB, maskedB, (sext_eq_self_iff 13 n (by decide)).mpr (by omega)]
  · rw [immJOf_encodeJ, maskedJ, (sext_eq_self_iff 21 n (by decide)).mpr (by omega)]

/-- Settles O12: in its range an immediate is what masking leaves of it. -/
theorem inRangeImmediatesAreExact : Obligations.InRangeImmediatesAreExact := by
  refine fun imm rs2 rs1 f3 rd op => ⟨fun hlo hhi => ?_, fun hlo hhi heven => ?_, fun hlo hhi => ?_,
    fun hlo hhi heven => ?_⟩
  · have himm := (imm12Ok_iff imm).mp (decide_eq_true ⟨hlo, hhi⟩)
    exact ⟨(immIOf_encodeI ..).trans himm, (immSOf_encodeS ..).trans himm⟩
  · exact (immBOf_encodeB ..).trans ((immBOk_iff imm).mp (decide_eq_true ⟨hlo, hhi, heven⟩))
  · exact (immUOf_encodeU ..).trans ((immUOk_iff imm).mp (decide_eq_true ⟨hlo, hhi⟩))
  · exact (immJOf_encodeJ ..).trans ((immJOk_iff imm).mp (decide_eq_true ⟨hlo, hhi, heven⟩))

/-- Settles O11: the ends of each range are in it. -/
theorem rangeEndsDecodeBack : Obligations.RangeEndsDecodeBack := by
  have hexact := inRangeImmediatesAreExact
  refine fun rs2 rs1 f3 rd op => ⟨fun n hn => ?_, fun n hn => ?_, fun n hn => ?_, fun n hn => ?_⟩
  all_goals
    simp only [List.mem_cons, List.not_mem_nil, or_false] at hn
    obtain ⟨hIS, hB, hU, hJ⟩ := hexact n rs2 rs1 f3 rd op
  · exact hIS (by omega) (by omega)
  · exact hB (by omega) (by omega) (by omega)
  · exact hU (by omega) (by omega)
  · exact hJ (by omega) (by omega) (by omega)

/-- Settles O29: the I word has the masked immediate in its top row, and immediates with one masked value one word. -/
theorem immediateEncoderCorners : Obligations.ImmediateEncoderCorners := by
  have himm (imm rs1 f3 rd op : Int) : wordBits (encodeI imm rs1 f3 rd op) 31 20 = zext 12 imm :=
    wordBits_of_whole_row (.I imm rs1 f3 rd op) (show ⟨31, 20, .imm, 0⟩ ∈ layout .I by decide)
  refine ⟨fun imm rs1 f3 rd op => ⟨rfl, encodeI_eq_wordI .., himm .., ?_, ?_, ?_, ?_, ?_⟩, rfl⟩
  · exact (himm ..).trans rfl
  · exact (himm ..).trans rfl
  · exact (himm ..).trans rfl
  · exact (encodeI_eq_iff ..).mpr ⟨rfl, rfl, rfl, rfl, rfl⟩
  · exact (encodeI_eq_iff ..).mpr ⟨rfl, rfl, rfl, rfl, rfl⟩

end Sys2Proof.Proofs

/-! Where the B immediate's bits stand in the word (R53, R119). -/

namespace Sys2Proof.Machine

/-- A range of the word as its two parts. -/
theorem wordBits_split (w : Word) {hi mid lo : Nat} (hlo : lo ≤ mid) (hhi : mid < hi) :
    wordBits w hi lo = wordBits w hi (mid + 1) * 2 ^ (mid - lo + 1) + wordBits w mid lo := by
  have hjoin := BitVec.extractLsb'_append_extractLsb'_eq_extractLsb' (x := w) (start₁ := lo) (len₁ := mid - lo + 1)
    (len₂ := hi - (mid + 1) + 1) (show mid + 1 = lo + (mid - lo + 1) by omega)
  have hval := congrArg BitVec.toNat hjoin
  rw [BitVec.toNat_append, ← Nat.shiftLeft_add_eq_or_of_lt (BitVec.isLt _), Nat.shiftLeft_eq,
    show hi - (mid + 1) + 1 + (mid - lo + 1) = hi - lo + 1 by omega] at hval
  rw [wordBits, ← hval]
  push_cast
  rfl

/-- The positions of the B immediate, [31:25] and [11:7]. -/
theorem encodeB_immediate_positions (imm rs2 rs1 f3 op : Int) :
    wordBits (encodeB imm rs2 rs1 f3 op) 31 25 = bits imm 12 12 * 2 ^ 6 + bits imm 10 5 ∧
      wordBits (encodeB imm rs2 rs1 f3 op) 11 7 = bits imm 4 1 * 2 + bits imm 11 11 := by
  have hrow (row : LayoutRow) (h : row ∈ layout .B) := wordBits_of_mem_layout (.B imm rs2 rs1 f3 op) h
  rw [wordBits_split _ (hi := 31) (mid := 30) (by decide) (by decide),
    wordBits_split _ (hi := 11) (mid := 7) (by decide) (by decide)]
  constructor
  · exact congrArg₂ (· * 2 ^ 6 + ·) (hrow ⟨31, 31, .imm, 12⟩ (by decide)) (hrow ⟨30, 25, .imm, 5⟩ (by decide))
  · exact congrArg₂ (· * 2 + ·) (hrow ⟨11, 8, .imm, 1⟩ (by decide)) (hrow ⟨7, 7, .imm, 11⟩ (by decide))

end Sys2Proof.Machine

namespace Sys2Proof.Proofs
open Machine

/-- Settles O30: the B word is that of the masked offset, whose bits stand where the layout puts them. -/
theorem branchEncoderCorners : Obligations.BranchEncoderCorners := by
  refine ⟨fun imm rs2 rs1 f3 op => ⟨rfl, encodeB_eq_wordB .., ?_, ?_, immBOf_encodeB .., maskedB_emod_two imm⟩,
    fun rs2 rs1 f3 op => ?_, rfl⟩
  · exact wordBit_of_mem_layout (.B imm rs2 rs1 f3 op) (show ⟨11, 8, .imm, 1⟩ ∈ layout .B by decide) (by decide)
      (by decide)
  · exact (encodeB_eq_iff ..).mpr ⟨(maskedB_eq_iff ..).mp (maskedB_maskedB imm), rfl, rfl, rfl, rfl⟩
  · simp only [encodeB_immediate_positions]
    exact ⟨rfl, rfl, rfl⟩

end Sys2Proof.Proofs

/-! Assembly text (R71 to R79). -/

namespace Sys2Proof.Machine

theorem textR_eq (m : String) (rd rs1 rs2 : Int) : textR m rd rs1 rs2 =
    m ++ " " ++ "x" ++ toString rd ++ ", " ++ "x" ++ toString rs1 ++ ", " ++ "x" ++ toString rs2 := by
  simp only [textR, lineText, joinOperands, regText, String.append_assoc]

theorem textImm_eq (m : String) (rd rs1 imm : Int) : textImm m rd rs1 imm =
    m ++ " " ++ "x" ++ toString rd ++ ", " ++ "x" ++ toString rs1 ++ ", " ++ toString imm := by
  simp only [textImm, lineText, joinOperands, regText, String.append_assoc]

theorem textBase_eq (m : String) (r imm rs1 : Int) : textBase m r imm rs1 =
    m ++ " " ++ "x" ++ toString r ++ ", " ++ toString imm ++ "(" ++ "x" ++ toString rs1 ++ ")" := by
  simp only [textBase, lineText, joinOperands, regText, String.append_assoc]

theorem textB_eq (m : String) (rs1 rs2 imm : Int) : textB m rs1 rs2 imm =
    m ++ " " ++ "x" ++ toString rs1 ++ ", " ++ "x" ++ toString rs2 ++ ", " ++ toString imm := by
  simp only [textB, lineText, joinOperands, regText, String.append_assoc]

theorem textRdImm_eq (m : String) (rd imm : Int) : textRdImm m rd imm =
    m ++ " " ++ "x" ++ toString rd ++ ", " ++ toString imm := by
  simp only [textRdImm, lineText, joinOperands, regText, String.append_assoc]

/-- FENCE's text names its two sets (R79). -/
theorem render_fence (pred succ : Int) :
    render (.fence 0 pred succ) = some ("fence " ++ fenceSetText pred ++ ", " ++ fenceSetText succ) := by
  have hname : "fence" ++ " " = "fence " := rfl
  simp only [render, if_true, lineText, joinOperands, hname, String.append_assoc]

/-- The low bits of an integer are those of its masked value. -/
theorem bitOf_zext {n i : Nat} (v : Int) (h : i < n) : bitOf (zext n v) i = bitOf v i := by
  rw [bitOf_eq_extractLsb' _ i n h, bitOf_eq_extractLsb' _ i n h, (zext_eq_zext_iff n _ _).mp (zext_zext n v)]

/-- A FENCE set prints the letters of its low four bits (log entry 11). -/
theorem fenceSetText_zext (v : Int) : fenceSetText (zext 4 v) = fenceSetText v := by
  simp [fenceSetText, bitOf_zext]

end Sys2Proof.Machine

namespace Sys2Proof.Proofs
open Machine

/-- Settles O54: the text of each family is its mnemonic with the family's operands joined. -/
theorem assemblyTextHasTheOperandSyntax : Obligations.AssemblyTextHasTheOperandSyntax := by
  refine ⟨fun a b c => ⟨fun p hp => ?_, fun p hp => ?_, fun p hp => ?_, fun p hp => ?_, fun p hp => ?_⟩,
    by decide, by decide, by decide⟩
  · fin_cases hp <;> exact congrArg some (textR_eq _ a b c)
  · fin_cases hp <;> exact congrArg some (textImm_eq _ a b c)
  · fin_cases hp <;> exact congrArg some (textBase_eq _ a c b)
  · fin_cases hp <;> exact congrArg some (textB_eq _ a b c)
  · fin_cases hp <;> exact congrArg some (textRdImm_eq _ a c)

/-- Settles O55: FENCE's text is the text of its two sets, and a set's text that of its low four bits. -/
theorem systemTextNamesTheSets : Obligations.SystemTextNamesTheSets := by
  refine ⟨?_, fun pred succ => ?_, fun fm pred succ => ?_, rfl, rfl⟩
  · intro sets p hp q hq
    have hset : ∀ p ∈ sets, fenceSetText p.1 = p.2 := by decide
    rw [render_fence, hset p hp, hset q hq]
  · simp only [render_fence, fenceSetText_zext]
  · by_cases h : fm = 0 <;> simp [render, h]

end Sys2Proof.Proofs

/-! The packer's integer and its bits (R80, R83). -/

namespace Sys2Proof.Machine

/-- A packed value is the masked value times `2^offset`. -/
theorem pack_eq_zext_mul (v : Int) (w o : Nat) : (pack v w o : Int) = zext w v * 2 ^ o := by
  rw [pack_eq, zext_eq_ofInt, Nat.shiftLeft_eq]
  norm_cast

/-- The low `w` bits of an integer, one by one. -/
theorem getLsbD_ofInt_iff_bitOf (w : Nat) (v : Int) (j : Nat) :
    (BitVec.ofInt w v).getLsbD j = true ↔ j < w ∧ bitOf v j = 1 := by
  by_cases hj : j < w
  · rw [bitOf_eq_extractLsb' v j w hj, BitVec.getLsbD_eq_extractLsb', beq_iff_eq, BitVec.toNat_eq]
    simp only [hj, true_and]
    norm_cast
  · simp [hj, (BitVec.ofInt w v).getLsbD_of_ge j (by omega)]

/-- A packed value has the low bits of the integer in its field and no other bit. -/
theorem testBit_pack_iff (v : Int) (w o i : Nat) :
    (pack v w o).testBit i = true ↔ o ≤ i ∧ i < o + w ∧ bitOf v (i - o) = 1 := by
  rw [pack_eq, Nat.testBit_shiftLeft, Bool.and_eq_true, decide_eq_true_eq, BitVec.testBit_toNat,
    getLsbD_ofInt_iff_bitOf]
  exact and_congr_right fun ho => and_congr_left' (by omega)

/-- A placed bit range is its integer times `2^dest`. -/
theorem place_eq_bits_mul (v : Int) (hi lo dest : Nat) : (place v hi lo dest : Int) = bits v hi lo * 2 ^ dest := by
  rw [place, pack_eq_zext_mul, bits_eq_zext]

/-- A placed bit range has its bits at its destination and no other bit. -/
theorem testBit_place_iff (v : Int) (hi lo dest i : Nat) : (place v hi lo dest).testBit i = true ↔
    dest ≤ i ∧ i ≤ dest + (hi - lo) ∧ bitOf v (lo + (i - dest)) = 1 := by
  rw [place, testBit_pack_iff, bitOf_shiftRight, ← Nat.add_assoc, Nat.lt_succ_iff]

end Sys2Proof.Machine

namespace Sys2Proof.Proofs
open Machine

/-- Settles O2: zero extension is the AND with the mask, and the shift moves each bit up by the offset. -/
theorem packerMasksThenShifts : Obligations.PackerMasksThenShifts := by
  refine ⟨fun v w o => ⟨?_, pack_eq_zext_mul v w o, pack_lt v w o, testBit_pack_iff v w o⟩, rfl, rfl, rfl⟩
  rw [land_mask, pack_eq_zext_mul]

/-- Settles O3: place is pack of the value shifted down, so its integer and its bits are those of pack. -/
theorem placeTakesTheNamedBits : Obligations.PlaceTakesTheNamedBits :=
  ⟨fun v hi lo dest _ => ⟨rfl, place_eq_bits_mul v hi lo dest, testBit_place_iff v hi lo dest⟩, rfl, rfl⟩

/-- Settles O18: the pack call returns pack at its site, and every site lies inside the word. -/
theorem packCallsAnswerInsideTheWord : Obligations.PackCallsAnswerInsideTheWord :=
  fun site v rest o => ⟨pack v site.width site.offset, step_cons_of_perform (fun _ => rfl) rest o,
    pack_eq_zext_mul v site.width site.offset, site.offset_add_width_le, pack_site_lt site v⟩

end Sys2Proof.Proofs

/-! The R-type mnemonics and encode_R (R87 to R97). -/

namespace Sys2Proof.Machine

/-- A mnemonic's call returns any word that is its table word. -/
theorem exec_next_of_encode_eq {i : Instr} {w : Word} (h : encode i = w) (s : State) :
    exec i s = .next { s with output := some (.word w) } := h ▸ exec_eq_encode i s

/-- R words that agree outside funct7 differ where their funct7 fields differ and nowhere else. -/
theorem wordR_xor_wordR (f7 f7' : BitVec 7) (rs2 rs1 : Int) (f3 : BitVec 3) (rd : Int) (op : BitVec 7) :
    wordR f7 rs2 rs1 f3 rd op ^^^ wordR f7' rs2 rs1 f3 rd op = wordR (f7 ^^^ f7') 0 0 0 0 0 := by
  refine (BitVec.xor_append ..).trans ?_
  simp only [BitVec.xor_append, BitVec.xor_self]
  rfl

/-- The funct7 values 0x20 and 0 set the word's bit 30 apart, and no other bit (R88 to R97). -/
theorem encodeR_xor_encodeR_funct7_bit5 (rs2 rs1 f3 rd op : Int) :
    encodeR 0b0100000 rs2 rs1 f3 rd op ^^^ encodeR 0b0000000 rs2 rs1 f3 rd op = 0x40000000 := by
  rw [encodeR_eq_wordR, encodeR_eq_wordR, wordR_xor_wordR]
  decide

/-- An encode_R word depends on each input modulo the size of its field only (R87). -/
theorem encodeR_add_mul_two_pow (f7 rs2 rs1 f3 rd op a b c d e f : Int) :
    encodeR (f7 + 2 ^ 7 * a) (rs2 + 2 ^ 5 * b) (rs1 + 2 ^ 5 * c) (f3 + 2 ^ 3 * d) (rd + 2 ^ 5 * e) (op + 2 ^ 7 * f) =
      encodeR f7 rs2 rs1 f3 rd op := by
  simp only [encodeR, pack_add_mul_two_pow]

end Sys2Proof.Machine

namespace Sys2Proof.Proofs
open Machine

/-- Settles O19: each call returns its table word, which is encode_R of the rule's constants; the two funct7 values
differ in bit 30 alone. -/
theorem registerRegisterWords : Obligations.RegisterRegisterWords := by
  refine ⟨fun s rd rs1 rs2 => ?_, fun s => ?_, fun rd rs1 rs2 => ⟨?_, ?_⟩⟩
  · simp only [exec_eq_encode, encode, encodeR_eq_wordR, BitVec.reduceOfInt, and_self]
  · and_intros <;> exact exec_next_of_encode_eq (by decide) s
  · exact encodeR_xor_encodeR_funct7_bit5 ..
  · exact encodeR_xor_encodeR_funct7_bit5 ..

/-- Settles O28: encode_R is the R word of its masked fields, so rd and funct7 read back masked. -/
theorem registerEncoderCorners : Obligations.RegisterEncoderCorners := by
  refine ⟨fun f7 rs2 rs1 f3 rd op => ⟨rfl, encodeR_eq_wordR .., ?_, ?_, encodeR_add_mul_two_pow f7 rs2 rs1 f3 rd op⟩,
    by decide⟩
  · obtain ⟨hrd, -⟩ := encodeR_registers f7 rs2 rs1 f3 37 op
    exact hrd
  · obtain ⟨hf7, -⟩ := encodeR_funct7 (-96) rs2 rs1 f3 rd op
    exact hf7

end Sys2Proof.Proofs

/-! The I-type mnemonics: immediate ALU, shifts by immediate, loads and JALR (R100 to R114). -/

namespace Sys2Proof.Machine

/-- The word of a shift by immediate as the table's I word (R46, R99). -/
theorem encodeI_shiftImm_eq_wordI (f7 shamt rs1 f3 rd op : Int) : encodeI (shiftImm f7 shamt) rs1 f3 rd op =
    wordI (BitVec.ofInt 7 f7 ++ BitVec.ofInt 5 shamt) rs1 (BitVec.ofInt 3 f3) rd (BitVec.ofInt 7 op) := by
  rw [encodeI_shiftImm, encodeR_eq_wordR, wordI_shift_eq_wordR]

/-- The shift immediate depends on shamt modulo 32 only. -/
theorem shiftImm_shamt_add (f7 shamt k : Int) : shiftImm f7 (shamt + 32 * k) = shiftImm f7 shamt := by
  simpa using shiftImm_add f7 shamt 0 k

/-- Bit 0 of the I immediate stands at word[20] (R46, R114). -/
theorem encodeI_bit20 (imm rs1 f3 rd op : Int) : wordBits (encodeI imm rs1 f3 rd op) 20 20 = bitOf imm 0 :=
  wordBit_of_mem_layout (.I imm rs1 f3 rd op) (show ⟨31, 20, .imm, 0⟩ ∈ layout .I by decide) (i := 20) (by decide)
    (by decide)

end Sys2Proof.Machine

namespace Sys2Proof
open Machine

/-- A word that is the table word of a well-formed instruction decodes to that instruction. -/
theorem decodeWord_of_encode_eq {i : Instr} {w : Word} (h : encode i = w) (hi : i.wellFormed = true) :
    decodeWord w = .ok i := h ▸ decodeWord_encode_of_wellFormed hi

end Sys2Proof

namespace Sys2Proof.Proofs
open Machine

/-- Settles O20: each call returns its table word, which is encode_I of the rule's constants; -1 fills the immediate's
row. -/
theorem immediateAluWords : Obligations.ImmediateAluWords := by
  refine ⟨fun s rd rs1 imm => ?_, fun s => ?_, ?_⟩
  · simp only [exec_eq_encode, encode, encodeI_eq_wordI, BitVec.reduceOfInt, and_self]
  · and_intros <;> exact exec_next_of_encode_eq (by decide) s
  · decide

/-- Settles O21: each call returns its table word, which is encode_I of the shift immediate; as R words SRAI's and
SRLI's differ in bit 30 alone, and the shift immediate masks shamt. -/
theorem shiftByImmediateWords : Obligations.ShiftByImmediateWords := by
  refine ⟨fun s rd rs1 shamt => ?_, fun s => ?_, fun rd rs1 shamt => ?_, fun s rd rs1 shamt k => ?_⟩
  · simp only [exec_eq_encode, encode, encodeI_shiftImm_eq_wordI, BitVec.reduceOfInt, and_self]
  · and_intros <;> exact exec_next_of_encode_eq (by decide) s
  · rw [encodeI_shiftImm, encodeI_shiftImm]
    exact encodeR_xor_encodeR_funct7_bit5 ..
  · simp only [exec_eq_returnWord, requestOf, shiftImm_shamt_add, and_self]

/-- Settles O22: each call returns its table word, which is encode_I of the rule's constants; the I layout keeps bit 0
of the immediate. -/
theorem loadAndJalrWords : Obligations.LoadAndJalrWords := by
  refine ⟨fun s rd rs1 imm => ?_, fun s => ?_, fun rd rs1 imm => encodeI_bit20 ..⟩
  · simp only [exec_eq_encode, encode, encodeI_eq_wordI, BitVec.reduceOfInt, and_self]
  · and_intros <;> exact exec_next_of_encode_eq (by decide) s

/-- Settles O56: each word is the table word of the instruction named, whose operands are in range. -/
theorem listedWordsDecodeToTheirInstruction : Obligations.ListedWordsDecodeToTheirInstruction := by
  and_intros <;> exact decodeWord_of_encode_eq (by decide) (by decide)

end Sys2Proof.Proofs

/-! The S-type mnemonics and encode_S (R115 to R118). -/

namespace Sys2Proof.Machine

/-- The positions of the S immediate, [31:25] and [11:7] (R115). -/
theorem encodeS_immediate_positions (imm rs2 rs1 f3 op : Int) :
    wordBits (encodeS imm rs2 rs1 f3 op) 31 25 = bits imm 11 5 ∧
      wordBits (encodeS imm rs2 rs1 f3 op) 11 7 = bits imm 4 0 :=
  ⟨wordBits_of_mem_layout (.S imm rs2 rs1 f3 op) (show ⟨31, 25, .imm, 5⟩ ∈ layout .S by decide),
    wordBits_of_mem_layout (.S imm rs2 rs1 f3 op) (show ⟨11, 7, .imm, 0⟩ ∈ layout .S by decide)⟩

end Sys2Proof.Machine

namespace Sys2Proof.Proofs
open Machine

/-- Settles O23: each call returns its table word, which is encode_S of the rule's constants; the immediate's parts
stand where the layout puts them, and 2048 and -2048 have one masked value. -/
theorem storeWords : Obligations.StoreWords := by
  refine ⟨fun s rs2 rs1 imm => ?_, fun s => ?_, fun imm rs2 rs1 f3 op => ⟨rfl, encodeS_eq_wordS ..⟩,
    fun rs2 rs1 f3 op => ?_⟩
  · simp only [exec_eq_encode, encode, encodeS_eq_wordS, BitVec.reduceOfInt, and_self]
  · and_intros <;> exact exec_next_of_encode_eq (by decide) s
  · simp only [encodeS_immediate_positions]
    exact ⟨rfl, rfl, rfl, (encodeS_eq_iff ..).mpr ⟨rfl, rfl, rfl, rfl, rfl⟩⟩

end Sys2Proof.Proofs

/-! The B-type mnemonics and the offsets encode_B masks (R120 to R126). -/

namespace Sys2Proof.Machine

/-- A range whose lowest position is bit 1 does not see bit 0. -/
theorem bits_one_sub_one_of_odd {v : Int} (hi : Nat) (h : v % 2 = 1) : bits (v - 1) hi 1 = bits v hi 1 := by
  have hhalf : (v - 1) / 2 = v / 2 := by omega
  rw [bits, bits, pow_one, hhalf]

/-- A range up to bit `hi` does not see a multiple of `2 ^ (hi + 1)`. -/
theorem bits_add_mul_two_pow (v k : Int) {hi lo : Nat} (h : lo ≤ hi) :
    bits (v + 2 ^ (hi + 1) * k) hi lo = bits v hi lo := by
  have hsplit : (2 : Int) ^ (hi + 1) = 2 ^ lo * 2 ^ (hi - lo + 1) := by
    rw [← pow_add]
    congr 1
    omega
  rw [bits, bits, hsplit, mul_assoc, Int.add_mul_ediv_left _ _ (by positivity), Int.add_mul_emod_self_left]

section
variable {imm imm' : Int} (rs2 rs1 f3 op : Int)

/-- encode_B reads bits [12:1] of its offset and no other (R48, R119). -/
theorem encodeB_eq_of_bits_eq (h : bits imm 12 1 = bits imm' 12 1) :
    encodeB imm rs2 rs1 f3 op = encodeB imm' rs2 rs1 f3 op := (encodeB_eq_iff ..).mpr ⟨h, rfl, rfl, rfl, rfl⟩

theorem encodeB_eq_sub_one_of_odd (h : imm % 2 = 1) : encodeB imm rs2 rs1 f3 op = encodeB (imm - 1) rs2 rs1 f3 op :=
  encodeB_eq_of_bits_eq _ _ _ _ (bits_one_sub_one_of_odd 12 h).symm

variable (imm) in
theorem encodeB_offset_add (k : Int) : encodeB (imm + 2 ^ 13 * k) rs2 rs1 f3 op = encodeB imm rs2 rs1 f3 op :=
  encodeB_eq_of_bits_eq _ _ _ _ (bits_add_mul_two_pow imm k (hi := 12) (by decide))

end

end Sys2Proof.Machine

namespace Sys2Proof.Proofs
open Machine

/-- Settles O14: encode_B reads bits [12:1] of the offset alone, and 4096 is -4096 and one period of 2^13. -/
theorem oddAndWideBranchOffsetsAreEncoded : Obligations.OddAndWideBranchOffsetsAreEncoded := by
  refine ⟨fun imm rs2 rs1 f3 op => encodeB_eq_sub_one_of_odd rs2 rs1 f3 op,
    fun imm k rs2 rs1 f3 op => encodeB_offset_add imm rs2 rs1 f3 op k, fun rs2 rs1 f3 op => ⟨?_, ?_, ?_⟩⟩
  · exact encodeB_eq_sub_one_of_odd (imm := -3) rs2 rs1 f3 op rfl
  · exact encodeB_eq_sub_one_of_odd (imm := 4095) rs2 rs1 f3 op rfl
  · simpa using encodeB_offset_add (-4096) rs2 rs1 f3 op 1

/-- Settles O24: each call returns its table word, which is encode_B of the rule's constants. -/
theorem branchWords : Obligations.BranchWords := by
  refine ⟨fun s rs1 rs2 imm => ?_, fun s => ?_⟩
  · simp only [exec_eq_encode, encode, encodeB_eq_wordB, BitVec.reduceOfInt, and_self]
  · and_intros <;> exact exec_next_of_encode_eq (by decide) s

end Sys2Proof.Proofs

/-! The U-type mnemonics and the immediates encode_U masks (R127 to R130). -/

namespace Sys2Proof.Machine

/-- Zero extension of a value shifted up by `k` is the shifted zero extension, `k` bits narrower. -/
theorem zext_add_mul_two_pow (w k : Nat) (v : Int) : zext (w + k) (v * 2 ^ k) = zext w v * 2 ^ k := by
  rw [zext, zext, pow_add, mul_comm v, mul_comm (2 ^ w), Int.mul_emod_mul_of_pos _ _ (by positivity), mul_comm]

/-- encode_U reads the low 20 bits of its immediate and no other (R49, R127). -/
theorem encodeU_eq_of_zext_eq {imm imm' : Int} (rd op : Int) (h : zext 20 imm = zext 20 imm') :
    encodeU imm rd op = encodeU imm' rd op := (encodeU_eq_iff ..).mpr ⟨h, rfl, rfl⟩

end Sys2Proof.Machine

namespace Sys2Proof.Proofs
open Machine

/-- Settles O16: the immediate's row holds the low 20 bits of what is passed, and 0x12345000 and 0x45000 have the same
20. -/
theorem upperImmediateIsNotTheWholeValue : Obligations.UpperImmediateIsNotTheWholeValue := by
  refine ⟨immUOf_encodeU, fun v rd op => ?_, fun rd op s => ⟨?_, ?_⟩⟩
  · exact (immUOf_encodeU ..).trans (zext_add_mul_two_pow 8 12 v)
  · exact (immUOf_encodeU ..).trans rfl
  · rw [encodeU_eq_of_zext_eq rd _ (show zext 20 0x45000 = zext 20 0x12345000 from rfl)]
    exact exec_eq_returnWord (.lui rd 0x12345000) s

/-- Settles O25: each call returns its table word, which is encode_U of the rule's constants; the row [31:12] holds the
masked immediate, and immediates with one masked value one word. -/
theorem upperImmediateWords : Obligations.UpperImmediateWords := by
  refine ⟨fun s rd imm => ?_, fun s => ?_, fun imm rd op => ⟨rfl, encodeU_eq_wordU ..⟩,
    fun rd op => ⟨?_, ?_, ?_, ?_⟩⟩
  · simp only [exec_eq_encode, encode, encodeU_eq_wordU, BitVec.reduceOfInt, and_self]
  · and_intros <;> exact exec_next_of_encode_eq (by decide) s
  · exact (immUOf_encodeU ..).trans rfl
  · exact (immUOf_encodeU ..).trans rfl
  · exact encodeU_eq_of_zext_eq rd op rfl
  · exact encodeU_eq_of_zext_eq rd op rfl

end Sys2Proof.Proofs

/-! JAL and the offsets encode_J masks (R131 to R133). -/

namespace Sys2Proof.Machine

section
variable {imm imm' : Int} (rd op : Int)

/-- encode_J reads bits [20:1] of its offset and no other (R50, R131). -/
theorem encodeJ_eq_of_bits_eq (h : bits imm 20 1 = bits imm' 20 1) : encodeJ imm rd op = encodeJ imm' rd op :=
  (encodeJ_eq_iff ..).mpr ⟨h, rfl, rfl⟩

theorem encodeJ_eq_sub_one_of_odd (h : imm % 2 = 1) : encodeJ imm rd op = encodeJ (imm - 1) rd op :=
  encodeJ_eq_of_bits_eq _ _ (bits_one_sub_one_of_odd 20 h).symm

variable (imm) in
theorem encodeJ_offset_add (k : Int) : encodeJ (imm + 2 ^ 21 * k) rd op = encodeJ imm rd op :=
  encodeJ_eq_of_bits_eq _ _ (bits_add_mul_two_pow imm k (hi := 20) (by decide))

variable (imm) in
/-- The positions [31:12] of a J word: imm[20], imm[10:1], imm[11] and imm[19:12] from the top down (R131). -/
theorem encodeJ_offset_positions : wordBits (encodeJ imm rd op) 31 12 =
    bits imm 20 20 * 2 ^ 19 + (bits imm 10 1 * 2 ^ 9 + (bits imm 11 11 * 2 ^ 8 + bits imm 19 12)) := by
  have hrow (row : LayoutRow) (h : row ∈ layout .J) := wordBits_of_mem_layout (.J imm rd op) h
  rw [wordBits_split _ (hi := 31) (mid := 30) (by decide) (by decide),
    wordBits_split _ (hi := 30) (mid := 20) (by decide) (by decide),
    wordBits_split _ (hi := 20) (mid := 19) (by decide) (by decide)]
  have h20 : wordBits (encodeJ imm rd op) 31 31 = bits imm 20 20 := hrow ⟨31, 31, .imm, 20⟩ (by decide)
  have h10 : wordBits (encodeJ imm rd op) 30 21 = bits imm 10 1 := hrow ⟨30, 21, .imm, 1⟩ (by decide)
  have h11 : wordBits (encodeJ imm rd op) 20 20 = bits imm 11 11 := hrow ⟨20, 20, .imm, 11⟩ (by decide)
  have h19 : wordBits (encodeJ imm rd op) 19 12 = bits imm 19 12 := hrow ⟨19, 12, .imm, 12⟩ (by decide)
  rw [h20, h10, h11, h19]

end

end Sys2Proof.Machine

namespace Sys2Proof.Proofs
open Machine

/-- Settles O15: encode_J reads bits [20:1] of the offset alone, and 1048576 is -1048576 and one period of 2^21. -/
theorem oddAndWideJumpOffsetsAreEncoded : Obligations.OddAndWideJumpOffsetsAreEncoded := by
  refine ⟨fun imm rd op => encodeJ_eq_sub_one_of_odd rd op, fun imm k rd op => encodeJ_offset_add imm rd op k,
    fun rd op => ⟨?_, ?_, ?_, ?_⟩⟩
  · exact encodeJ_eq_sub_one_of_odd (imm := 5) rd op rfl
  · exact encodeJ_eq_sub_one_of_odd (imm := -1) rd op rfl
  · exact encodeJ_eq_sub_one_of_odd (imm := 1048575) rd op rfl
  · simpa using encodeJ_offset_add (-1048576) rd op 1

/-- Settles O26: the call returns its table word, which is encode_J of the rule's constants; the four parts of the
offset stand where the layout puts them, and immJ_of reads the masked offset back from them. -/
theorem jumpAndLinkWords : Obligations.JumpAndLinkWords := by
  refine ⟨fun s rd imm => ?_, fun s => ?_,
    fun imm rd op => ⟨rfl, encodeJ_eq_wordJ .., immJOf_encodeJ ..⟩, fun rd op => ?_, immJOf_emod_two⟩
  · simp only [exec_eq_encode, encode, encodeJ_eq_wordJ, BitVec.reduceOfInt, and_self]
  · and_intros <;> exact exec_next_of_encode_eq (by decide) s
  · simp only [encodeJ_offset_positions]
    exact ⟨rfl, rfl⟩

end Sys2Proof.Proofs

/-! FENCE, ECALL and EBREAK (R134 to R136). -/

namespace Sys2Proof.Proofs
open Machine

/-- Settles O27: each call returns its request's word, which is the table's word. -/
theorem fenceEcallEbreakWords : Obligations.FenceEcallEbreakWords := by
  refine ⟨fun s fm pred succ => ⟨exec_eq_returnWord (.fence fm pred succ) s,
    encodeRequest_requestOf (.fence fm pred succ), exec_eq_returnWord .ecall s, encodeRequest_requestOf .ecall,
    exec_eq_returnWord .ebreak s, encodeRequest_requestOf .ebreak⟩, fun s => ?_, ?_⟩
  · and_intros <;> exact exec_next_of_encode_eq (by decide) s
  · decide

end Sys2Proof.Proofs

/-! Masking the operands leaves the word as it is, so operands with one masked value are one call (R139, R160). -/

namespace Sys2Proof
open Machine

/-- The table's word holds nothing of an instruction but its masked operands: the word decodes to the masked
instruction, and a word that decodes is the word of what it decodes to. -/
theorem encode_masked (i : Instr) : encode i.masked = encode i := by
  obtain ⟨hw, -⟩ | ⟨hfence, -⟩ := decodeWord_cases (decodeWord_encode i)
  · exact hw
  · cases i with
    | fence fm pred succ =>
      have hset (v : Int) : BitVec.ofInt 4 (zext 4 v) = BitVec.ofInt 4 v := (zext_eq_zext_iff 4 _ _).mp (zext_zext 4 v)
      simp only [Instr.masked, encode, hset]
    | _ => cases hfence

end Sys2Proof

namespace Sys2Proof.Machine

/-- The call of an instruction is that of its masked form. -/
theorem exec_masked (i : Instr) (s : State) : exec i.masked s = exec i s := by
  rw [exec_eq_encode, exec_eq_encode, encode_masked]

/-- Instructions with one masked form have one call. -/
theorem exec_eq_of_masked_eq {i j : Instr} (h : i.masked = j.masked) (s : State) : exec i s = exec j s := by
  rw [← exec_masked i, h, exec_masked]

/-- A masked value does not see a multiple of `2 ^ n`. -/
theorem zext_add_two_pow_mul (n : Nat) (v k : Int) : zext n (v + 2 ^ n * k) = zext n v :=
  Int.add_mul_emod_self_left ..

theorem sext_add_two_pow_mul {n : Nat} (v k : Int) (hn : 0 < n) : sext n (v + 2 ^ n * k) = sext n v :=
  (sext_eq_sext_iff _ _ hn).mpr (zext_add_two_pow_mul n v k)

theorem maskedB_add_two_pow_mul (v k : Int) : maskedB (v + 2 ^ 13 * k) = maskedB v :=
  (maskedB_eq_iff ..).mpr (bits_add_mul_two_pow v k (hi := 12) (by decide))

theorem maskedJ_add_two_pow_mul (v k : Int) : maskedJ (v + 2 ^ 21 * k) = maskedJ v :=
  (maskedJ_eq_iff ..).mpr (bits_add_mul_two_pow v k (hi := 20) (by decide))

theorem maskedB_sub_one_of_odd {v : Int} (h : v % 2 = 1) : maskedB (v - 1) = maskedB v :=
  (maskedB_eq_iff ..).mpr (bits_one_sub_one_of_odd 12 h)

theorem maskedJ_sub_one_of_odd {v : Int} (h : v % 2 = 1) : maskedJ (v - 1) = maskedJ v :=
  (maskedJ_eq_iff ..).mpr (bits_one_sub_one_of_odd 20 h)

end Sys2Proof.Machine

namespace Sys2Proof.Proofs
open Machine

/-- Settles O31: the call is that of the masked instruction, and it returns the table's word. -/
theorem outOfRangeOperandsAreTruncated : Obligations.OutOfRangeOperandsAreTruncated :=
  fun i s => ⟨(exec_masked i s).symm, encode i, exec_eq_encode i s⟩

/-- Settles O34: in each misuse the operand passed and the one encoded have one masked value. -/
theorem silentMisuseGivesAnotherWord : Obligations.SilentMisuseGivesAnotherWord := by
  refine ⟨fun i s => (exec_masked i s).symm, fun s rd rs1 rs2 imm k =>
    ⟨exec_eq_of_masked_eq ?_ s, fun hodd => ⟨exec_eq_of_masked_eq ?_ s, exec_eq_of_masked_eq ?_ s⟩,
      exec_eq_of_masked_eq ?_ s, exec_eq_of_masked_eq ?_ s, exec_eq_of_masked_eq ?_ s, exec_eq_of_masked_eq ?_ s,
      exec_eq_of_masked_eq ?_ s, exec_eq_of_masked_eq ?_ s⟩, fun s => ?_⟩
  · have hwhole (v : Int) : zext 20 (v * 2 ^ 12) = zext 8 v * 2 ^ 12 := zext_add_mul_two_pow 8 12 v
    simp only [Instr.masked, hwhole, zext_zext]
  · simp only [Instr.masked, maskedB_sub_one_of_odd hodd]
  · simp only [Instr.masked, maskedJ_sub_one_of_odd hodd]
  · simp only [Instr.masked, maskedB_add_two_pow_mul]
  · simp only [Instr.masked, maskedJ_add_two_pow_mul]
  · simp only [Instr.masked, zext_add_two_pow_mul]
  · simp only [Instr.masked, zext_add_two_pow_mul]
  · simp only [Instr.masked, sext_add_two_pow_mul imm k (show 0 < 12 by decide)]
  · simp only [Instr.masked, sext_add_two_pow_mul imm k (show 0 < 12 by decide)]
  · and_intros <;> exact exec_next_of_encode_eq (by decide) s

end Sys2Proof.Proofs

/-! Every call completes, and a step with no call clears the output (R140, R154). -/

namespace Sys2Proof.Machine

/-- A select call with a format's own code returns the word of the request the bus makes in that format (R30). -/
theorem perform_select_code (f : Format) (bus : FieldBus) (s : State) :
    perform (.select (Config.selEncoding.code f) bus) s = returnWord (encodeRequest (bus.request f)) s := by
  simp only [perform, formatOfCode_code]

/-- A step with no call presented clears the output and changes nothing else (log entry 2). -/
theorem step_of_no_call {s : State} (h : s.calls = []) : step s = .next (s.setOutput none) := by
  simp only [step, h, idle]

/-- A step with a call presented that has a value serves it and puts a value at the output. -/
theorem step_of_assigned_call {s : State} {c : Call} {rest : List Call} (h : s.calls = c :: rest) (hc : c.Assigned) :
    ∃ v, step s = .next ((s.setCalls rest).setOutput (some v)) := by
  obtain ⟨v, hv⟩ := hc.perform_returns
  exact ⟨v, (step_of_call h).trans (hv _)⟩

end Sys2Proof.Machine

namespace Sys2Proof.Proofs
open Machine

/-- Settles O36: by the kind of the call, its value from every state. -/
theorem everyCallReturnsAValue : Obligations.EveryCallReturnsAValue := by
  intro c rest o hc
  cases c with
  | shiftImm f7 shamt => exact ⟨_, step_cons_of_perform (perform_shiftImm f7 shamt) rest o, _, rfl⟩
  | pack site v => exact ⟨_, step_cons_of_perform (fun _ => rfl) rest o, _, rfl⟩
  | select code bus =>
    obtain ⟨f, rfl⟩ := hc
    exact ⟨_, step_cons_of_perform (perform_select_code f bus) rest o, _, rfl⟩
  | instr i => exact ⟨_, step_cons_of_perform (c := .instr i) (exec_eq_returnWord i) rest o, _, rfl⟩
  | _ => exact ⟨_, step_cons_of_perform (fun _ => rfl) rest o, _, rfl⟩

/-- Settles O51: there is no call to have a value and no output to be in range. -/
theorem invariantHoldsAtReset : Obligations.InvariantHoldsAtReset :=
  ⟨List.forall_mem_nil _, nofun⟩

/-- Settles O52: the invariant gives the call at the head a value; with no call the output is cleared. -/
theorem invariantStatesNeverStop : Obligations.InvariantStatesNeverStop := by
  rintro s ⟨hassigned, -⟩
  rcases hcalls : s.calls with _ | ⟨c, rest⟩
  · exact ⟨s.setOutput none, step_of_no_call hcalls, by simp [hcalls]⟩
  · obtain ⟨v, hv⟩ := step_of_assigned_call hcalls (hassigned c (by simp [hcalls]))
    exact ⟨_, hv, by simp⟩

/-- Settles O53: at reset nothing is presented, and the idle step clears whatever output there is. -/
theorem noCallNoOutput : Obligations.NoCallNoOutput :=
  ⟨State.reset_calls, State.reset_output, fun _ h => step_of_no_call h⟩

end Sys2Proof.Proofs
